-- ==== Sys2Proof/Word.lean ====
section
/-! DEFINITION. The fixed widths of the block (00_scope.md R10): every value is an unsigned bit vector. -/

namespace Sys2Proof

/-- A command word: 32 bits (00_scope.md R10, 20_memory.md R53). -/
abbrev Word := BitVec 32

/-- The command data field, the duty, the pulse width and the timer counter: 16 bits unsigned (00_scope.md R10). -/
abbrev Half := BitVec 16

/-- A sector value or the S operand: 3 bits (00_scope.md R10, 30_encoding.md R70). -/
abbrev SectorWord := BitVec 3

/-- A channel configuration word: 5 bits (00_scope.md R10, 41_channel_driver.md R120). -/
abbrev ChanWord := BitVec 5

/-- The dead-time counter of a channel: 8 bits (00_scope.md R10). -/
abbrev SinceWord := BitVec 8

end Sys2Proof
end

