-- ==== Sys2Proof/Syntax.lean ====
section
/-! DEFINITION. The commands of the block: one constructor per row of spec/opcode_table.json (30_encoding.md R72). -/

namespace Sys2Proof

/-- The six commands, with the operands that R76's decode function returns. -/
inductive Instr where
  /-- An idle clock (44_sequencer.md R200). -/
  | nop
  /-- Step the sector forward (44_sequencer.md R201). -/
  | advance
  /-- Step the sector backward (44_sequencer.md R202). -/
  | retreat
  /-- Drive a table row at a duty (42_commutation.md R160): `s` is a sector 0..5 or 7, the current sector. -/
  | apply (s : SectorWord) (d : Half)
  /-- Float all three phases (42_commutation.md R161). -/
  | stop
  /-- Decode a throttle pulse width `w`, in µs, and drive the engine (43_throttle.md R180). -/
  | decode (w : Half)
deriving DecidableEq, Repr

end Sys2Proof
end

