-- ==== Sys2Proof/WellFormed.lean ====
section
/-! DEFINITION. Which instruction terms have an encoding: the one operand condition the types leave open. -/

namespace Sys2Proof

/-- An instruction is well-formed when its operands are legal: an APPLY's sector operand is not 6
(30_encoding.md R73, R75). -/
def Instr.wellFormed : Instr → Bool
  | .nop => true
  | .advance => true
  | .retreat => true
  | .apply s _ => s != 6
  | .stop => true
  | .decode _ => true

end Sys2Proof
end

