-- ==== Sys2Proof/Decode.lean ====
section
/-! DEFINITION. The decoder of 30_encoding.md R76, total on 32-bit words; the opcode rows of R74; and the encoder,
from the format of R70 and the opcode map of R72. -/

namespace Sys2Proof

/-- Field OP, bits [31:28] (R70). -/
def opField (cmd : Word) : BitVec 4 := cmd.extractLsb' 28 4

/-- Field RSV0, bit [27] (R70). -/
def rsv0Field (cmd : Word) : BitVec 1 := cmd.extractLsb' 27 1

/-- Field S, bits [26:24] (R70). -/
def sectorField (cmd : Word) : SectorWord := cmd.extractLsb' 24 3

/-- Field RSV1, bits [23:16] (R70). -/
def rsv1Field (cmd : Word) : BitVec 8 := cmd.extractLsb' 16 8

/-- Field DATA, bits [15:0] (R70). -/
def dataField (cmd : Word) : Half := cmd.extractLsb' 0 16

/-- `Decode(cmd)` of R76: `none` is ILLEGAL. -/
def decode (cmd : Word) : Option Instr :=
  let op := opField cmd
  let s := sectorField cmd
  let data := dataField cmd
  if rsv0Field cmd ≠ 0 ∨ rsv1Field cmd ≠ 0 then none
  else if op = 0x0 then (if s = 0 ∧ data = 0 then some .nop else none)
  else if op = 0x1 then (if s = 0 ∧ data = 0 then some .advance else none)
  else if op = 0x2 then (if s = 0 ∧ data = 0 then some .retreat else none)
  else if op = 0x3 then (if s ≠ 6 then some (.apply s data) else none)
  else if op = 0x4 then (if s = 0 ∧ data = 0 then some .stop else none)
  else if op = 0x5 then (if s = 0 then some (.decode data) else none)
  else none

/-- One row of R74: a word belongs to the row when `(cmd & mask) = pattern` and the extra condition holds. -/
structure OpcodeRow where
  mask : Word
  pattern : Word
  /-- Whether the row has the extra condition `cmd[26:24] ≠ 6`. -/
  forbidsSix : Bool
deriving DecidableEq, Repr

/-- A word is legal for a row (R74). -/
def OpcodeRow.accepts (r : OpcodeRow) (cmd : Word) : Bool :=
  (cmd &&& r.mask == r.pattern) && (!r.forbidsSix || sectorField cmd != 6)

/-- The row of R74 an instruction belongs to. -/
def Instr.row : Instr → OpcodeRow
  | .nop => ⟨0xFFFFFFFF, 0x00000000, false⟩
  | .advance => ⟨0xFFFFFFFF, 0x10000000, false⟩
  | .retreat => ⟨0xFFFFFFFF, 0x20000000, false⟩
  | .apply _ _ => ⟨0xF8FF0000, 0x30000000, true⟩
  | .stop => ⟨0xFFFFFFFF, 0x40000000, false⟩
  | .decode _ => ⟨0xFFFF0000, 0x50000000, false⟩

/-- The six rows of R74, in the table's order. -/
def opcodeRows : List OpcodeRow :=
  [Instr.nop.row, Instr.advance.row, Instr.retreat.row, (Instr.apply 0 0).row, Instr.stop.row, (Instr.decode 0).row]

/-- A word from its fields, the reserved ones 0 (R70). -/
def packWord (op : BitVec 4) (s : SectorWord) (data : Half) : Word :=
  op ++ 0#1 ++ s ++ 0#8 ++ data

/-- The word of an instruction (R70, R72, R79). For an ill-formed one (`apply 6 d`) it is a word that decodes as illegal;
an assembler refuses that operand instead (Machine/Assembler.lean). -/
def encode : Instr → Word
  | .nop => packWord 0x0 0 0
  | .advance => packWord 0x1 0 0
  | .retreat => packWord 0x2 0 0
  | .apply s d => packWord 0x3 s d
  | .stop => packWord 0x4 0 0
  | .decode w => packWord 0x5 0 w

/-- The instruction the decoder reads from a word whose low `nbits` bits are `w`, numbered as the table numbers them; the
bits above are 0. One command is one 32-bit word, delivered whole (R71, 20_memory.md R53). -/
def decodeTableWord (nbits w : Nat) : Option Instr :=
  decode (BitVec.ofNat 32 (w % 2 ^ nbits))

end Sys2Proof
end

