-- ==== Sys2Proof/Config.lean ====
section
/-! DEFINITION. The configuration record of 00_scope.md R8 with its constraints (R9), the default record, and the
frequency of the record's clock, which the spec leaves open. -/

namespace Sys2Proof

/-- STEP_ORDER: whether a running DECODE advances the sector before or after it applies the row (R8, D15). -/
inductive StepOrder where
  | advanceThenApply
  | applyThenAdvance
deriving DecidableEq, Repr

/-- The configuration record of R8, its eleven parameters. The numbers are mathematical integers (R11); their ranges are
`Params.Valid`. F_CLK is a real number, which plain data cannot hold: `clk` names it (log 4). -/
structure Params where
  /-- PERIOD, in timer ticks. -/
  period : Nat
  /-- DT, in timer ticks. OPEN in the spec (D9). -/
  dt : Nat
  /-- P_MIN, in µs. -/
  pMin : Nat
  /-- P_MAX, in µs. -/
  pMax : Nat
  /-- W_MIN, in µs. -/
  wMin : Nat
  /-- W_MAX, in µs. -/
  wMax : Nat
  /-- W_STOP, in µs. -/
  wStop : Nat
  /-- K, duty counts per µs. -/
  k : Nat
  /-- STEP_ORDER. -/
  stepOrder : StepOrder
  /-- ADVANCE_ON_DECODE. -/
  advanceOnDecode : Bool
  /-- F_CLK, by the name of the clock that drives CLK: the value is `Params.fClk`. OPEN in the spec (D23). -/
  clk : Nat
deriving DecidableEq, Repr

/-- The ranges of R8 and the constraints 1, 2, 3, 5 and 6 of R9. A record that breaks one of them is not a
configuration of this hardware. Constraint 4 is `Params.MeetsScenarios`: R9 lets a model drop it (log 3). -/
abbrev Params.Valid (p : Params) : Prop :=
  (1 ≤ p.period ∧ p.period ≤ 65535) ∧
  (1 ≤ p.dt ∧ p.dt ≤ 255) ∧
  (p.pMin ≤ p.wMin ∧ p.wMax ≤ p.pMax ∧ p.pMax ≤ 65535) ∧
  (p.wMin < p.wStop ∧ p.wStop ≤ p.wMax) ∧
  (1 ≤ p.k ∧ p.k ≤ 65535) ∧
  (p.wMax - p.wMin) * p.k ≤ p.period

/-- Constraint 4 of R9, which only the scenarios of the document's §8 need. -/
abbrev Params.MeetsScenarios (p : Params) : Prop :=
  500 < p.pMin ∧ p.pMin ≤ 1000 ∧ 2500 ≤ p.pMax

/-- The default values of R8, for a given dead time (DT has no default, nor has F_CLK: clock 0 has some frequency). -/
def Params.standard (dt : Nat) : Params where
  period := 65000
  dt := dt
  pMin := 800
  pMax := 2500
  wMin := 1000
  wMax := 2000
  wStop := 1050
  k := 65
  stepOrder := .advanceThenApply
  advanceOnDecode := true
  clk := 0

/-- Configuration D of 95_test_vectors.md: the default record with DT = 4. DESIGN CHOICE, unsafe: DT is OPEN and the
one reset state of the interface needs a number; no statement rests on it (log 2). -/
def Params.configD : Params := Params.standard 4

/-- F_CLK of a clock, by its name: some positive real. DESIGN CHOICE, safe: F_CLK is OPEN, so the function has no body; an
invertible nonnegative real is a positive one (log 4). -/
opaque Config.frequency : Nat → NNRealˣ

/-- F_CLK, the frequency of the record's clock (R8, 41_channel_driver.md R135, D23). No rule depends on it. -/
def Params.fClk (p : Params) : ℝ := (Config.frequency p.clk : NNReal)

/-- The PWM frequency is `F_CLK / PERIOD` (41_channel_driver.md R135). -/
def Params.PwmFrequencyIs (p : Params) (f : ℝ) : Prop := f = p.fClk / p.period

/-- One clock lasts `1 / F_CLK` (70_reset_and_hazards.md R253). -/
def Params.ClockLengthIs (p : Params) (t : ℝ) : Prop := t = 1 / p.fClk

end Sys2Proof
end

