-- ==== Sys2Proof/Machine/State.lean ====
section
/-! DEFINITION. The state of the block (10_state.md R22), its reset value (70_reset_and_hazards.md R240), and the reasons
for which a step can stop. -/

namespace Sys2Proof.Machine

/-- The three motor phases (00_scope.md R13). -/
inductive Phase where
  | u
  | v
  | w
deriving DecidableEq, Repr

/-- What one phase's pair of switches does (00_scope.md R13, 40_phase_table.md R100). -/
inductive DriveIntent where
  | high
  | low
  | float
deriving DecidableEq, Repr

/-- RunState (00_scope.md R13): STOPPED is encoded 0 and RUNNING 1. -/
inductive RunState where
  | stopped
  | running
deriving DecidableEq, Repr

/-- The response codes of 60_exceptions.md R220. Code 3 is never driven (93 U11), so it has no name here. -/
inductive Resp where
  | ok
  | reject
  | illegal
deriving DecidableEq, Repr

/-- One value per phase, as `shadow_cfg[p]` and the other per-phase elements of R22 are. -/
structure PhaseTriple (α : Type) where
  u : α
  v : α
  w : α
deriving DecidableEq, Repr

/-- The same value for the three phases. -/
def PhaseTriple.all {α : Type} (x : α) : PhaseTriple α := ⟨x, x, x⟩

/-- A pair of switch requests `(a, b)`, `a` for the high side and `b` for the low side (10_state.md R31). -/
structure Request where
  a : Bool
  b : Bool
deriving DecidableEq, Repr

/-- What the host drives on the input ports in one clock (10_state.md R36). -/
structure PortInput where
  /-- RST, active high. -/
  rst : Bool
  /-- CMD_VALID. -/
  cmdValid : Bool
  /-- CMD[31:0]. -/
  cmd : Word
deriving DecidableEq, Repr

/-- A clock in which the host drives nothing: RST = 0 and CMD_VALID = 0. -/
def PortInput.idle : PortInput := ⟨false, false, 0⟩

/-- A clock in which the host issues the command word `w`. -/
def PortInput.command (w : Word) : PortInput := ⟨false, true, w⟩

/-- A clock in which the host asserts RST (with no command). -/
def PortInput.reset : PortInput := ⟨true, false, 0⟩

/-- The block's state S (10_state.md R22), and the three fields of the model's own at the end. -/
structure State where
  /-- The current commutation step, 0..5 (R23). -/
  sector : SectorWord
  /-- RunState (R24). -/
  run : RunState
  /-- The write-buffered compare value, 0..PERIOD (R25). -/
  duty : Half
  /-- The write-buffered channel configurations (R26). -/
  shadowCfg : PhaseTriple ChanWord
  /-- A commit has been requested and has not yet taken effect (R27). -/
  commitPending : Bool
  /-- The channel configurations that drive the outputs (R28). -/
  activeCfg : PhaseTriple ChanWord
  /-- The compare value the time base uses now (R29). -/
  ccrActive : Half
  /-- The PWM time-base counter, 0..PERIOD-1 (R30). -/
  cnt : Half
  /-- The switch requests each channel computed at the last tick (R31). -/
  dtReq : PhaseTriple Request
  /-- The ticks since each request pair last changed, saturating at DT (R32). -/
  dtSince : PhaseTriple SinceWord
  /-- The sticky error flag (R33). -/
  err : Bool
  /-- The model's own: what RESP[1:0] carried in the clock just executed. RESP is not state of the block (R38; log 6). -/
  resp : Resp
  /-- The model's own: what the host drives in the coming clocks, the next one first; past the end of the list it drives
  an idle clock (R36, 20_memory.md R52; log 5). -/
  inputs : List PortInput
  /-- The configuration record of 00_scope.md R8: a constant, not state of the block (R43). Nothing writes it (log 1). -/
  params : Params
deriving DecidableEq, Repr

/-- Why a step stops with a fault. -/
inductive Fault where
  /-- The Phase Drive Table read with an index outside 0..5 (40_phase_table.md R106, 93 U1). Raised by APPLY and DECODE
  when the selected sector is 6 or 7, which no reachable state has. Safe. -/
  | phaseTableIndex
  /-- An active configuration word that is none of CFG(HIGH), CFG(LOW), CFG(FLOAT) (41_channel_driver.md R134, 93 U4).
  Raised by a clock whose tick leaves such a word active, which no clock of a reachable state does. Safe. -/
  | channelWord
  /-- An illegal command word, for a reading that stops there (60_exceptions.md R221, 93 U2). Raised by
  `Safety.claimStep` only: `step` gives the block's own effect instead, which sets `err` (log 7). Safe. -/
  | illegalCommand
deriving DecidableEq, Repr

/-- Why a step gives no meaning at all. -/
inductive Refusal where
  /-- An instruction with no meaning yet. Raised by no arm of `exec`. Safe. -/
  | notModelled (mnemonic : String)
  /-- The configuration record breaks a constraint of 00_scope.md R9, so it is not this hardware (93 U8). Raised by
  `step`. Safe. -/
  | brokenConfiguration
deriving DecidableEq, Repr

/-- `ResetState` (70_reset_and_hazards.md R240) for a configuration. The configuration words are CFG(FLOAT) = 0x1C. The
last fields are the model's own: RESP reads OK and the host drives nothing. -/
def State.resetWith (p : Params) : State where
  sector := 0
  run := .stopped
  duty := 0
  shadowCfg := .all 0x1C
  commitPending := false
  activeCfg := .all 0x1C
  ccrActive := 0
  cnt := 0
  dtReq := .all ⟨false, false⟩
  dtSince := .all (BitVec.ofNat 8 p.dt)
  err := false
  resp := .ok
  inputs := []
  params := p

/-- The machine right after reset, in configuration D (R240; log 2). -/
def State.reset : State := State.resetWith Params.configD

end Sys2Proof.Machine
end

