-- ==== Sys2Proof/Machine/PhaseTable.lean ====
section
/-! DEFINITION. The Phase Drive Table (40_phase_table.md) and the access to one phase of a triple. -/

namespace Sys2Proof.Machine

/-- The value of one phase. -/
def PhaseTriple.get {α : Type} (t : PhaseTriple α) : Phase → α
  | .u => t.u
  | .v => t.v
  | .w => t.w

/-- The same function applied to the three phases. -/
def PhaseTriple.map {α β : Type} (f : α → β) (t : PhaseTriple α) : PhaseTriple β :=
  ⟨f t.u, f t.v, f t.w⟩

/-- `T[s]`, the row of a sector: the six rows of 40_phase_table.md R102 (log 10). `T[6]` and `T[7]` are not defined
(R106). -/
def phaseTable (s : SectorWord) : Option (PhaseTriple DriveIntent) :=
  if s = 0 then some ⟨.high, .low, .float⟩
  else if s = 1 then some ⟨.high, .float, .low⟩
  else if s = 2 then some ⟨.float, .high, .low⟩
  else if s = 3 then some ⟨.low, .high, .float⟩
  else if s = 4 then some ⟨.low, .float, .high⟩
  else if s = 5 then some ⟨.float, .low, .high⟩
  else none

end Sys2Proof.Machine
end

