-- ==== Sys2Proof/Machine/Ops.lean ====
section
/-! DEFINITION. The named operations over the state: single-element writes, the intent translation CFG, the sector steps,
the shadow writes, the commit, and the response to an illegal word (the block's only exception). -/

namespace Sys2Proof.Machine

/-- Go on from a next state; a fault or a refusal stops. -/
def andThen (o : Host.Outcome State Fault Refusal) (f : State → Host.Outcome State Fault Refusal) :
    Host.Outcome State Fault Refusal :=
  match o with
  | .next s => f s
  | .fault r => .fault r
  | .refused r => .refused r

/-- `resp <- c` (00_scope.md R12, 60_exceptions.md R220). -/
def State.setResp (r : Resp) (s : State) : State := { s with resp := r }

/-- `sector <- v`. -/
def State.setSector (v : SectorWord) (s : State) : State := { s with sector := v }

/-- `duty <- d`. -/
def State.setDuty (d : Half) (s : State) : State := { s with duty := d }

/-- `err <- 1` (10_state.md R33). -/
def State.setErr (s : State) : State := { s with err := true }

/-- `cnt <- c`. -/
def State.setCnt (c : Half) (s : State) : State := { s with cnt := c }

/-- The shadow write that APPLY and STOP share: all three words, the run flag, and the commit request
(42_commutation.md R160, R161). -/
def State.writeShadow (c : PhaseTriple ChanWord) (r : RunState) (s : State) : State :=
  { s with shadowCfg := c, run := r, commitPending := true }

/-- The dead-time state of the three channels, written together at the end of a tick (41_channel_driver.md R124). -/
def State.setChannels (q : PhaseTriple Request) (n : PhaseTriple SinceWord) (s : State) : State :=
  { s with dtReq := q, dtSince := n }

/-- The clock's port drive is used up. -/
def State.dropInput (s : State) : State := { s with inputs := s.inputs.tail }

/-- What the host drives in the coming clock (10_state.md R36; past the end of the list, nothing; log 5). -/
def State.nextInput (s : State) : PortInput := s.inputs.headD .idle

/-- `CFG(i)`, the configuration word of a drive intent (41_channel_driver.md R121). -/
def cfgWord : DriveIntent → ChanWord
  | .high => 0x19
  | .low => 0x18
  | .float => 0x1C

/-- The three words of a table row. -/
def rowWords (row : PhaseTriple DriveIntent) : PhaseTriple ChanWord := row.map cfgWord

/-- `(sector + 1) mod 6` (44_sequencer.md R201). -/
def nextSector (s : SectorWord) : SectorWord := BitVec.ofNat 3 ((s.toNat + 1) % 6)

/-- `(sector + 5) mod 6` (44_sequencer.md R202). -/
def prevSector (s : SectorWord) : SectorWord := BitVec.ofNat 3 ((s.toNat + 5) % 6)

/-- The forward step of the sequencer, shared by ADVANCE and a running DECODE (R201, 43_throttle.md R187). -/
def State.advanceSector (s : State) : State := s.setSector (nextSector s.sector)

/-- The backward step of the sequencer (R202). -/
def State.retreatSector (s : State) : State := s.setSector (prevSector s.sector)

/-- `STOP()` of 42_commutation.md R161, shared by STOP and a stopping DECODE: all three phases FLOAT, STOPPED, one commit
requested, RESP OK. The duty and the sector are not written. -/
def State.stopMotor (s : State) : State :=
  (s.writeShadow (.all (cfgWord .float)) .stopped).setResp .ok

/-- The drive of a known row at a known duty, the second half of `APPLY` (42_commutation.md R160). -/
def State.driveRow (row : PhaseTriple DriveIntent) (d : Half) (s : State) : State :=
  ((s.writeShadow (rowWords row) .running).setDuty d).setResp .ok

/-- `Commit()` of 42_commutation.md R162: the shadow and the duty become active together, or nothing changes. -/
def State.commit (s : State) : State :=
  if s.commitPending then
    { s with activeCfg := s.shadowCfg, ccrActive := s.duty, commitPending := false }
  else s

/-- `raise Illegal()` (00_scope.md R12, 60_exceptions.md R221): the response to a word that is no command. Nothing but
`err` and RESP is written. The block has no other exception and none to return from (R226, R227). -/
def State.raiseIllegal (s : State) : State := s.setErr.setResp .illegal

end Sys2Proof.Machine
end

