-- ==== Sys2Proof/Machine/Channel.lean ====
section
/-! DEFINITION. The complementary PWM channel driver (41_channel_driver.md): the configuration word's fields, the
reference, the switch requests, the dead-time generator, the time base, the tick and the gate drives. -/

namespace Sys2Proof.Machine

/-- MODE, bit [0]: 1 is PWM, 0 is FORCE_LOW (R120). -/
def ChanWord.mode (c : ChanWord) : Bool := c.getLsbD 0

/-- POL, bit [1] (R120). -/
def ChanWord.pol (c : ChanWord) : Bool := c.getLsbD 1

/-- POLN, bit [2] (R120). -/
def ChanWord.poln (c : ChanWord) : Bool := c.getLsbD 2

/-- EN, bit [3] (R120). -/
def ChanWord.en (c : ChanWord) : Bool := c.getLsbD 3

/-- ENN, bit [4] (R120). -/
def ChanWord.enn (c : ChanWord) : Bool := c.getLsbD 4

/-- `Ref(cfg, cnt, ccr)` of R125. -/
def reference (c : ChanWord) (cnt ccr : Half) : Bool :=
  if ChanWord.mode c then decide (cnt.toNat < ccr.toNat) else false

/-- `Req(cfg, r)` of R126: the two switch requests, before dead-time insertion. -/
def requestOf (c : ChanWord) (r : Bool) : Request where
  a := ChanWord.en c && (r ^^ ChanWord.pol c)
  b := ChanWord.enn c && (!r ^^ ChanWord.poln c)

/-- The request pair a channel computes in a tick (R124). -/
def channelRequest (c : ChanWord) (cnt ccr : Half) : Request := requestOf c (reference c cnt ccr)

/-- The new `dt_since` of `DeadTimeStep(p, q)` (R127). The new `dt_req` is `q` in either case. -/
def deadTimeSince (dt : Nat) (req : Request) (since : SinceWord) (q : Request) : SinceWord :=
  if q = req then BitVec.ofNat 8 (min (since.toNat + 1) dt) else 0

/-- The requests of the three channels, from the active configuration, the counter and the compare value (R124). -/
def State.requests (s : State) : PhaseTriple Request :=
  s.activeCfg.map (fun c => channelRequest c s.cnt s.ccrActive)

/-- The dead-time counters after a step with the requests `q` (R127). Each channel's is its own (R133). -/
def State.sinces (s : State) (q : PhaseTriple Request) : PhaseTriple SinceWord where
  u := deadTimeSince s.params.dt s.dtReq.u s.dtSince.u q.u
  v := deadTimeSince s.params.dt s.dtReq.v s.dtSince.v q.v
  w := deadTimeSince s.params.dt s.dtReq.w s.dtSince.w q.w

/-- The counter reads PERIOD-1, so this tick is the update event (R124). -/
def State.atUpdate (s : State) : Bool := s.cnt.toNat == s.params.period - 1

/-- The time base's half of a tick (R124): at the update event the counter wraps and the pending commit takes effect,
else it counts up. -/
def State.timeBase (s : State) : State :=
  if s.atUpdate then (s.setCnt 0).commit else s.setCnt (s.cnt + 1)

/-- The channels' half of a tick (R124): it reads the values just written. -/
def State.stepChannels (s : State) : State :=
  s.setChannels s.requests (s.sinces s.requests)

/-- `Tick(S)` of R124. -/
def State.tick (s : State) : State := s.timeBase.stepChannels

/-- `OH_p` of R128: the high-side switch of a phase is commanded to conduct. -/
def State.highOn (s : State) (p : Phase) : Bool :=
  (s.dtReq.get p).a && (s.dtSince.get p).toNat == s.params.dt

/-- `OL_p` of R128: the low-side switch of a phase is commanded to conduct. -/
def State.lowOn (s : State) (p : Phase) : Bool :=
  (s.dtReq.get p).b && (s.dtSince.get p).toNat == s.params.dt

/-- A word that CFG produces (R121, 10_state.md R35 invariant 4). -/
def ChanWord.isCfg (c : ChanWord) : Bool :=
  c == cfgWord .high || c == cfgWord .low || c == cfgWord .float

/-- The three active words are CFG words (10_state.md R35 invariant 4; 93 U4). -/
def State.channelWordsLegal (s : State) : Bool :=
  ChanWord.isCfg s.activeCfg.u && ChanWord.isCfg s.activeCfg.v && ChanWord.isCfg s.activeCfg.w

/-- `dt_req[p]` as its two bits: bit 1 holds `a` and bit 0 holds `b` (10_state.md R31). -/
def Request.bits (q : Request) : BitVec 2 := BitVec.ofBool q.a ++ BitVec.ofBool q.b

end Sys2Proof.Machine
end

