-- ==== Sys2Proof/Machine/Operands.lean ====
section
/-! DEFINITION. The operand forms (30_encoding.md R73): APPLY's sector operand and its duty. DECODE's width and the other
uses of DATA are unscaled. -/

namespace Sys2Proof.Machine

/-- APPLY's sector operand: 7 names the current sector, any other value names itself (30_encoding.md R73,
42_commutation.md R160). -/
def selectSector (operand current : SectorWord) : SectorWord :=
  if operand = 7 then current else operand

/-- APPLY's duty operand, `min(d, PERIOD)` (42_commutation.md R164). It is at most `d`, so it fits its 16 bits. -/
def saturateDuty (period : Nat) (d : Half) : Half := BitVec.ofNat 16 (min d.toNat period)

/-- `APPLY(s, d)` of 42_commutation.md R160, shared by APPLY and a running DECODE. A selected sector with no table row is
a fault, never a value (40_phase_table.md R106, 93 U1). -/
def applyRow (operand : SectorWord) (d : Half) (s : State) : Host.Outcome State Fault Refusal :=
  match phaseTable (selectSector operand s.sector) with
  | some row => .next (s.driveRow row (saturateDuty s.params.period d))
  | none => .fault .phaseTableIndex

end Sys2Proof.Machine
end

