-- ==== Sys2Proof/Machine/Commutation.lean ====
section
/-! DEFINITION. The commutation engine's commands: APPLY and STOP (42_commutation.md). -/

namespace Sys2Proof.Machine

/-- APPLY (42_commutation.md R160). -/
def execApply (operand : SectorWord) (d : Half) (s : State) : Host.Outcome State Fault Refusal :=
  applyRow operand d s

/-- STOP (42_commutation.md R161). -/
def execStop (s : State) : Host.Outcome State Fault Refusal := .next s.stopMotor

end Sys2Proof.Machine
end

