-- ==== Sys2Proof/Machine/Sequencer.lean ====
section
/-! DEFINITION. The sector sequencer's commands: NOP, ADVANCE, RETREAT (44_sequencer.md). -/

namespace Sys2Proof.Machine

/-- NOP (44_sequencer.md R200): RESP OK, no state written. -/
def execNop (s : State) : Host.Outcome State Fault Refusal := .next (s.setResp .ok)

/-- ADVANCE (44_sequencer.md R201). -/
def execAdvance (s : State) : Host.Outcome State Fault Refusal := .next (s.advanceSector.setResp .ok)

/-- RETREAT (44_sequencer.md R202). -/
def execRetreat (s : State) : Host.Outcome State Fault Refusal := .next (s.retreatSector.setResp .ok)

end Sys2Proof.Machine
end

