-- ==== Sys2Proof/Machine/Throttle.lean ====
section
/-! DEFINITION. The throttle decoder and its command DECODE (43_throttle.md). -/

namespace Sys2Proof.Machine

/-- The result of `Dec(w)` (43_throttle.md R185): REJECT, `(STOPPED, 0)`, or `(RUNNING, duty)`. -/
inductive Decoded where
  | reject
  | stopped
  | running (duty : Half)
deriving DecidableEq, Repr

/-- `w` is implausible (R181): outside the window [P_MIN, P_MAX], both bounds inside. -/
def implausible (p : Params) (w : Half) : Bool := w.toNat < p.pMin || p.pMax < w.toNat

/-- The clamp to the operating window (R183). -/
def clampWidth (p : Params) (w : Half) : Nat := min (max w.toNat p.wMin) p.wMax

/-- `Dec(w)` of R185. -/
def throttle (p : Params) (w : Half) : Decoded :=
  if implausible p w then .reject
  else if w.toNat < p.wStop then .stopped
  else .running (BitVec.ofNat 16 ((clampWidth p w - p.wMin) * p.k))

/-- A running DECODE steps the sector before it applies (R187). -/
def advancesBefore (p : Params) : Bool := p.advanceOnDecode && p.stepOrder == .advanceThenApply

/-- A running DECODE steps the sector after it applies (R187). -/
def advancesAfter (p : Params) : Bool := p.advanceOnDecode && p.stepOrder == .applyThenAdvance

/-- The running case of DECODE (R180): the optional sector steps around `APPLY(7, d)`. -/
def runThrottle (d : Half) (s : State) : Host.Outcome State Fault Refusal :=
  andThen (applyRow 7 d (if advancesBefore s.params then s.advanceSector else s))
    (fun t => .next (if advancesAfter s.params then t.advanceSector else t))

/-- DECODE (43_throttle.md R180). A rejected width writes no state; a stopping one writes `duty <- 0` and stops. -/
def execDecode (w : Half) (s : State) : Host.Outcome State Fault Refusal :=
  match throttle s.params w with
  | .reject => .next (s.setResp .reject)
  | .stopped => .next (s.setDuty 0).stopMotor
  | .running d => runThrottle d s

end Sys2Proof.Machine
end

