-- ==== Sys2Proof/Machine/Dispatch.lean ====
section
/-! DEFINITION. The dispatch of 30_encoding.md R78: one arm per command, each one call of its meaning. -/

namespace Sys2Proof.Machine

/-- The rule of a command, run on the state (30_encoding.md R78). -/
def exec (i : Instr) (s : State) : Host.Outcome State Fault Refusal :=
  match i with
  | .nop => Sys2Proof.Machine.execNop s
  | .advance => Sys2Proof.Machine.execAdvance s
  | .retreat => Sys2Proof.Machine.execRetreat s
  | .apply operand d => Sys2Proof.Machine.execApply operand d s
  | .stop => Sys2Proof.Machine.execStop s
  | .decode w => Sys2Proof.Machine.execDecode w s

end Sys2Proof.Machine
end

