-- ==== Sys2Proof/Machine/Clock.lean ====
section
/-! DEFINITION. One clock of the block (20_memory.md R52): reset, else at most one command, then exactly one tick. -/

namespace Sys2Proof.Machine

/-- `Exec(S, cmd)` of 30_encoding.md R78: the decoded command's rule, or the response to an illegal word. -/
def execWord (cmd : Word) (s : State) : Host.Outcome State Fault Refusal :=
  match decode cmd with
  | some i => exec i s
  | none => .next s.raiseIllegal

/-- The command part of a clock (R52): a clock without a command behaves as NOP (44_sequencer.md R200). -/
def runCommand (inp : PortInput) (s : State) : Host.Outcome State Fault Refusal :=
  if inp.cmdValid then execWord inp.cmd s else execNop s

/-- The tick at the end of a clock (R52). An active word that is no CFG word has left the reachable states, which is a
fault (41_channel_driver.md R134, 93 U4; log 9). -/
def finishClock (s : State) : Host.Outcome State Fault Refusal :=
  if s.tick.channelWordsLegal then .next s.tick else .fault .channelWord

/-- A clock with RST = 1 (70_reset_and_hazards.md R241): ResetState, the command ignored, RESP OK. The configuration record
and the host's further drives are not the block's state and stay. -/
def State.resetClock (s : State) : State := { State.resetWith s.params with inputs := s.inputs }

/-- What a clock does with the port drive `inp` (R52), in the priority of 60_exceptions.md R224. -/
def clockWith (inp : PortInput) (s : State) : Host.Outcome State Fault Refusal :=
  if inp.rst then .next s.resetClock else andThen (runCommand inp s) finishClock

/-- `Clock(S, rst, cmd_valid, cmd)` of R52 with the drive of the coming clock. A configuration that breaks
00_scope.md R9 is refused (93 U8; log 14). -/
def clock (s : State) : Host.Outcome State Fault Refusal :=
  if s.params.Valid then clockWith s.nextInput s.dropInput else .refused .brokenConfiguration

/-- The host's drive of the coming clock replaced by `inp`, its later drives unchanged. -/
def State.drive (inp : PortInput) (s : State) : State := { s with inputs := inp :: s.inputs.tail }

end Sys2Proof.Machine
end

