-- ==== Sys2Proof/Machine/Step.lean ====
section
/-! DEFINITION. One step of the machine is one clock of the block. -/

namespace Sys2Proof.Machine

/-- One clock (20_memory.md R52). -/
def step (s : State) : Host.Outcome State Fault Refusal := clock s

/-- The host issues the word whose low `nbits` bits are `w` (the bits above 0) on the command port in the coming clock,
instead of what it was to drive there. The block fetches nothing (10_state.md R21): this is where its next command comes
from (log 5). -/
def State.withFetchWord (s : State) (nbits w : Nat) : State :=
  s.drive (.command (BitVec.ofNat 32 (w % 2 ^ nbits)))

end Sys2Proof.Machine
end

