-- ==== Sys2Proof/Machine/Assembler.lean ====
section
/-! DEFINITION. The host's side of the command port: the assembly syntax and the pseudo-instructions of 30_encoding.md R79
and R80, and how the host runs them, one word a clock. -/

namespace Sys2Proof.Machine

/-- APPLY's sector operand as written: a number, or `cur` (R79). -/
inductive AsmSector where
  | num (n : Nat)
  | cur
deriving DecidableEq, Repr

/-- One line of assembly (R79, R80). -/
inductive AsmLine where
  | nop
  | advance
  | retreat
  | apply (s : AsmSector) (d : Nat)
  | stop
  | decode (w : Nat)
  /-- `.word n`: a raw word, the only way to an illegal one. -/
  | rawWord (n : Nat)
  /-- Pseudo `WAIT n`. -/
  | wait (n : Nat)
  /-- Pseudo `STEP d`. -/
  | step (d : Nat)
  /-- Pseudo `BACKSTEP d`. -/
  | backstep (d : Nat)
  /-- Pseudo `WAITCOMMIT`. -/
  | waitCommit
deriving DecidableEq, Repr

/-- What the host does for one line: issue words, one a clock, or poll until the commit. -/
inductive HostAction where
  | issue (ws : List Word)
  | pollCommit
deriving DecidableEq, Repr

/-- The S operand: 0..5, or `cur` = 7. `APPLY 6` and above are refused (R79). -/
def AsmSector.operand : AsmSector → Option SectorWord
  | .num n => if n ≤ 5 then some (BitVec.ofNat 3 n) else none
  | .cur => some 7

/-- A 16-bit operand; out of range is refused (R79, 93 U12). -/
def halfOperand (n : Nat) : Option Half := if n ≤ 65535 then some (BitVec.ofNat 16 n) else none

/-- One word for an instruction that has an encoding. -/
def issueInstrs (is : List Instr) : Option HostAction := some (.issue (is.map encode))

/-- The words of a line, `none` where the assembler refuses it (R79, R80). -/
def AsmLine.assemble : AsmLine → Option HostAction
  | .nop => issueInstrs [.nop]
  | .advance => issueInstrs [.advance]
  | .retreat => issueInstrs [.retreat]
  | .apply s d => s.operand.bind fun k => (halfOperand d).bind fun h => issueInstrs [.apply k h]
  | .stop => issueInstrs [.stop]
  | .decode w => (halfOperand w).bind fun h => issueInstrs [.decode h]
  | .rawWord n => if n < 2 ^ 32 then some (.issue [BitVec.ofNat 32 n]) else none
  | .wait n => issueInstrs (List.replicate n .nop)
  | .step d => (halfOperand d).bind fun h => issueInstrs [.advance, .apply 7 h]
  | .backstep d => (halfOperand d).bind fun h => issueInstrs [.retreat, .apply 7 h]
  | .waitCommit => some .pollCommit

/-- The host issues one word: one clock. -/
def issueWord (w : Word) (s : State) : Host.Outcome State Fault Refusal := step (s.drive (.command w))

/-- The host issues words in consecutive clocks. -/
def issueWords : List Word → State → Host.Outcome State Fault Refusal
  | [], s => .next s
  | w :: ws, s => andThen (issueWord w s) (issueWords ws)

/-- `WAITCOMMIT`: NOP while STATUS.PENDING = 1, for at most `fuel` clocks (R80; log 16). -/
def pollUntilCommitted : Nat → State → Host.Outcome State Fault Refusal
  | 0, s => .next s
  | fuel + 1, s =>
    if s.commitPending then andThen (issueWord (encode .nop) s) (pollUntilCommitted fuel) else .next s

/-- The host carries out one line. A poll runs for at most PERIOD clocks (R80). -/
def HostAction.run (a : HostAction) (s : State) : Host.Outcome State Fault Refusal :=
  match a with
  | .issue ws => issueWords ws s
  | .pollCommit => pollUntilCommitted s.params.period s

/-- The host carries out lines one after another. -/
def runActions : List HostAction → State → Host.Outcome State Fault Refusal
  | [], s => .next s
  | a :: as, s => andThen (a.run s) (runActions as)

/-! ## Text (R79; the details the rule leaves open: log 15) -/

/-- A blank inside a line. -/
def isBlank (c : Char) : Bool := c == ' ' || c == '\t'

/-- Blanks at both ends removed. -/
def trimBlanks (cs : List Char) : List Char := ((cs.dropWhile isBlank).reverse.dropWhile isBlank).reverse

/-- The pieces between commas. -/
def splitCommas : List Char → List (List Char)
  | [] => [[]]
  | c :: cs =>
    if c = ',' then [] :: splitCommas cs
    else
      match splitCommas cs with
      | [] => [[c]]
      | piece :: pieces => (c :: piece) :: pieces

/-- The value of a digit in a base up to 16. -/
def digitValue (base : Nat) (c : Char) : Option Nat :=
  let n := c.toNat
  let v := if 48 ≤ n ∧ n ≤ 57 then n - 48
    else if 97 ≤ n ∧ n ≤ 102 then n - 87
    else if 65 ≤ n ∧ n ≤ 70 then n - 55
    else 16
  if v < base then some v else none

/-- Digits read most significant first. -/
def digitsValue (base : Nat) : List Char → Nat → Option Nat
  | [], acc => some acc
  | c :: cs, acc => (digitValue base c).bind fun v => digitsValue base cs (acc * base + v)

/-- A number: decimal, or hexadecimal after `0x` (R79). -/
def parseNumber : List Char → Option Nat
  | [] => none
  | '0' :: 'x' :: d :: ds => digitsValue 16 (d :: ds) 0
  | cs => digitsValue 10 cs 0

/-- APPLY's sector operand: `cur` or a number (R79). -/
def parseSector (cs : List Char) : Option AsmSector :=
  if cs = ['c', 'u', 'r'] then some .cur else (parseNumber cs).map .num

/-- A mnemonic with its operands (R79, R80). -/
def parseCommand (mnemonic : List Char) (operands : List (List Char)) : Option AsmLine :=
  match operands with
  | [] =>
    if mnemonic = "NOP".toList then some .nop
    else if mnemonic = "ADVANCE".toList then some .advance
    else if mnemonic = "RETREAT".toList then some .retreat
    else if mnemonic = "STOP".toList then some .stop
    else if mnemonic = "WAITCOMMIT".toList then some .waitCommit
    else none
  | [x] =>
    if mnemonic = "DECODE".toList then (parseNumber x).map .decode
    else if mnemonic = ".word".toList then (parseNumber x).map .rawWord
    else if mnemonic = "WAIT".toList then (parseNumber x).map .wait
    else if mnemonic = "STEP".toList then (parseNumber x).map .step
    else if mnemonic = "BACKSTEP".toList then (parseNumber x).map .backstep
    else none
  | [x, y] =>
    if mnemonic = "APPLY".toList then
      (parseSector x).bind fun s => (parseNumber y).map fun d => .apply s d
    else none
  | _ :: _ :: _ :: _ => none

/-- One line of text (R79): a comment starts with `;`. A blank line is no command; `none` is a syntax error. -/
def parseLine (text : List Char) : Option (List AsmLine) :=
  let body := trimBlanks (text.takeWhile (· != ';'))
  let mnemonic := body.takeWhile (fun c => !isBlank c)
  let rest := trimBlanks (body.dropWhile (fun c => !isBlank c))
  if body = [] then some []
  else
    (parseCommand mnemonic (if rest = [] then [] else (splitCommas rest).map trimBlanks)).map fun l => [l]

end Sys2Proof.Machine
end

