-- ==== Sys2Proof/Machine/Flags.lean ====
section
/-! DEFINITION. The status flags as bits and as the port STATUS (10_state.md R37), and the numeric codes of RunState and
RESP (00_scope.md R13, 60_exceptions.md R220). -/

namespace Sys2Proof.Machine

/-- The encoding of RunState: STOPPED 0, RUNNING 1 (00_scope.md R13). -/
def RunState.bit : RunState → Bool
  | .stopped => false
  | .running => true

/-- The code on RESP[1:0] (60_exceptions.md R220). -/
def Resp.code : Resp → BitVec 2
  | .ok => 0
  | .reject => 1
  | .illegal => 2

/-- The port STATUS[31:0] (10_state.md R37): [2:0] SECTOR, [3] RUN, [4] PENDING, [5] ERR, [15:6] zero, [31:16] DUTY. -/
def State.status (s : State) : Word :=
  s.duty ++ 0#10 ++ BitVec.ofBool s.err ++ BitVec.ofBool s.commitPending ++ BitVec.ofBool s.run.bit ++ s.sector

/-- `current()`: the SECTOR field of STATUS (44_sequencer.md R205). -/
def State.current (s : State) : SectorWord := s.status.extractLsb' 0 3

end Sys2Proof.Machine
end

