-- ==== Sys2Proof/Machine/Ports.lean ====
section
/-! DEFINITION. The output ports GATE, ACTCFG and RESP (10_state.md R38 to R41). STATUS is in Flags.lean. -/

namespace Sys2Proof.Machine

/-- The six switch drives as a function of the state: bit order OH_U, OL_U, OH_V, OL_V, OH_W, OL_W from bit 0
(10_state.md R39). -/
def State.gate (s : State) : BitVec 6 :=
  BitVec.ofBool (s.lowOn .w) ++ BitVec.ofBool (s.highOn .w) ++ BitVec.ofBool (s.lowOn .v) ++
    BitVec.ofBool (s.highOn .v) ++ BitVec.ofBool (s.lowOn .u) ++ BitVec.ofBool (s.highOn .u)

/-- The port GATE[5:0] in the coming clock: forced to 0 while RST is asserted (R39, 70_reset_and_hazards.md R241). -/
def State.gatePort (s : State) : BitVec 6 := if s.nextInput.rst then 0 else s.gate

/-- The port ACTCFG[14:0] (R40). -/
def State.actcfg (s : State) : BitVec 15 := s.activeCfg.w ++ s.activeCfg.v ++ s.activeCfg.u

/-- The response to a command word (60_exceptions.md R220, R224): it depends on the word and the configuration alone. -/
def wordResp (p : Params) (cmd : Word) : Resp :=
  match decode cmd with
  | none => .illegal
  | some .nop => .ok
  | some .advance => .ok
  | some .retreat => .ok
  | some (.apply _ _) => .ok
  | some .stop => .ok
  | some (.decode w) => if implausible p w then .reject else .ok

/-- The port RESP in the coming clock, from this clock's drive (R38, R41): OK in a reset clock and in an idle one. -/
def State.respPort (s : State) : Resp :=
  if s.nextInput.rst then .ok
  else if s.nextInput.cmdValid then wordResp s.params s.nextInput.cmd
  else .ok

end Sys2Proof.Machine
end

