-- ==== Sys2Proof/Safety.lean ====
section
/-! DEFINITION. What counts as a good state and a good run: the invariants of 10_state.md R35, the guarantees of
00_scope.md R2, runs of several clocks, and the reading of 60_exceptions.md R221 in which an illegal word is a fault. -/

namespace Sys2Proof.Machine

/-! ## Runs -/

/-- `n` clocks (20_memory.md R52), the host driving what `inputs` says. -/
def clocks (n : Nat) (s : State) : Host.Outcome State Fault Refusal := Sys2Proof.core.run n s

/-- What the host drives `i` clocks from now. -/
def State.inputAt (s : State) (i : Nat) : PortInput := s.inputs.getD i .idle

/-- The host asserts no reset in the next `n` clocks. -/
def State.NoReset (s : State) (n : Nat) : Prop := ∀ i, i < n → (s.inputAt i).rst = false

/-- In this clock the host neither resets nor issues a command other than NOP. -/
def PortInput.quiet (inp : PortInput) : Bool :=
  !inp.rst && (!inp.cmdValid || decode inp.cmd == some .nop)

/-- The host is quiet in the next `n` clocks. -/
def State.Quiet (s : State) (n : Nat) : Prop := ∀ i, i < n → (s.inputAt i).quiet = true

/-- A state that some host can bring the block to, in some configuration, from reset (70_reset_and_hazards.md R243: a run
starts from ResetState only). -/
def State.Reachable (s : State) : Prop :=
  ∃ (p : Params) (host : List PortInput) (n : Nat),
    p.Valid ∧ clocks n { State.resetWith p with inputs := host } = .next s

/-- The same state of the block, built with the clock `c` (00_scope.md R8, F_CLK). -/
def State.onClock (c : Nat) (s : State) : State := { s with params := { s.params with clk := c } }

/-! ## Invariants -/

/-- The three FLOAT words. -/
def floatWords : PhaseTriple ChanWord := .all (cfgWord .float)

/-- The configuration words of one whole table row. -/
def IsRowWords (c : PhaseTriple ChanWord) : Prop :=
  ∃ (r : SectorWord) (row : PhaseTriple DriveIntent), phaseTable r = some row ∧ c = rowWords row

/-- The invariants 1 to 6 of 10_state.md R35, for a configuration that meets 00_scope.md R9. -/
structure State.Inv (s : State) : Prop where
  /-- 00_scope.md R9. -/
  params : s.params.Valid
  /-- 1. -/
  sector : s.sector.toNat < 6
  cnt : s.cnt.toNat < s.params.period
  duty : s.duty.toNat ≤ s.params.period
  ccr : s.ccrActive.toNat ≤ s.params.period
  since : ∀ p, (s.dtSince.get p).toNat ≤ s.params.dt
  /-- 2. -/
  stopped : s.run = .stopped → s.shadowCfg = floatWords
  /-- 3. -/
  running : s.run = .running → IsRowWords s.shadowCfg
  /-- 4. -/
  shadowWords : ∀ p, ChanWord.isCfg (s.shadowCfg.get p) = true
  activeWords : ∀ p, ChanWord.isCfg (s.activeCfg.get p) = true
  /-- 5. -/
  settled : s.commitPending = false → s.activeCfg = s.shadowCfg ∧ s.ccrActive = s.duty
  /-- 6. -/
  noBoth : ∀ p, ¬((s.dtReq.get p).a = true ∧ (s.dtReq.get p).b = true)

/-- Beyond R35: the active configuration is one whole row or all FLOAT, never a mixture (42_commutation.md R163, R165), and
`dt_req` is what each channel requests from the active configuration and the counter (10_state.md R31). -/
structure State.Consistent (s : State) : Prop where
  inv : s.Inv
  whole : s.activeCfg = floatWords ∨ IsRowWords s.activeCfg
  requested : s.dtReq = s.requests

/-! ## Guarantees and readings -/

/-- Guarantee (a) of 00_scope.md R2: no phase has both switches on. -/
def State.noShootThrough (s : State) : Prop := ∀ p, ¬(s.highOn p = true ∧ s.lowOn p = true)

/-- All six switches are open. -/
def State.allOpen (s : State) : Prop := ∀ p, s.highOn p = false ∧ s.lowOn p = false

/-- This clock's drive is an illegal command word that the block executes (60_exceptions.md R221, R224). -/
def PortInput.illegal (inp : PortInput) : Bool := !inp.rst && inp.cmdValid && (decode inp.cmd).isNone

/-- The step of a model that stops on an illegal word: R221's "a model treats an illegal word as a fault" (93 U2). `step`
gives the block's own effect in that clock instead, and a claim about a run takes ERR = 0 as a premise (log 7). -/
def claimStep (s : State) : Host.Outcome State Fault Refusal :=
  if s.params.Valid ∧ s.nextInput.illegal = true then .fault .illegalCommand else step s

/-- The host of the throttle-driven variant issues no command but DECODE (70_reset_and_hazards.md R250, 20_memory.md R58).
DESIGN CHOICE, safe: a NOP word counts as within that discipline. The two rules name only DECODE and 44_sequencer.md R200
makes a NOP word an idle clock, so they leave the word open (log 18). -/
def PortInput.throttleDriven (inp : PortInput) : Bool :=
  !inp.cmdValid ||
    match decode inp.cmd with
    | some (.decode _) => true
    | some .nop => true
    | some .advance => false
    | some .retreat => false
    | some (.apply _ _) => false
    | some .stop => false
    | none => false

end Sys2Proof.Machine
end

