-- ==== Sys2Proof/Certificates/Slice0/Obligations.lean ====
section
/-! DEFINITION. The statements for the provers. Each docstring names the rule of spec/ it formalises. Every statement holds
for every configuration record that meets 00_scope.md R9, so none rests on the values in `State.reset` (log 2), and none but
those that name table rows rests on the rotation of the table (log 10). -/

open Sys2Proof Sys2Proof.Machine

/-! ## Encoding (30_encoding.md) -/

/-- R77, one direction: decoding the word of a well-formed instruction gives the instruction, at every operand value. -/
def Obligations.DecodeOfEncodeIsTheInstruction : Prop :=
  ∀ i : Instr, i.wellFormed = true → decode (encode i) = some i

/-- R77 with the rows of R74: a word decodes exactly when a row accepts it, no two rows accept one word, decoding is
injective on legal words, and encoding a decoded instruction gives back the word, which lies in the instruction's row. -/
def Obligations.LegalWordsAreTheTableRows : Prop :=
  (∀ w : Word, (decode w).isSome = opcodeRows.any (fun r => r.accepts w)) ∧
  (∀ w : Word, ∀ r ∈ opcodeRows, ∀ r' ∈ opcodeRows, r.accepts w = true → r'.accepts w = true → r = r') ∧
  (∀ (w w' : Word) (i : Instr), decode w = some i → decode w' = some i → w = w') ∧
  (∀ (w : Word) (i : Instr), decode w = some i → encode i = w ∧ i.row.accepts w = true ∧ i.wellFormed = true)

/-- R75, the list of illegal words, by the bits of R70. -/
def Obligations.IllegalWordsAreTheListOfRule75 : Prop :=
  ∀ w : Word, decode w = none ↔
    6 ≤ (w.extractLsb' 28 4).toNat ∨ w.getLsbD 27 = true ∨ w.extractLsb' 16 8 ≠ 0 ∨
    (w.extractLsb' 24 3 ≠ 0 ∧ w.extractLsb' 28 4 ≠ 3) ∨
    (w.extractLsb' 0 16 ≠ 0 ∧ (w.extractLsb' 28 4 = 0 ∨ w.extractLsb' 28 4 = 1 ∨ w.extractLsb' 28 4 = 2 ∨ w.extractLsb' 28 4 = 4)) ∨
    (w.extractLsb' 28 4 = 3 ∧ w.extractLsb' 24 3 = 6)

/-- R81, the encoding examples: the text assembles to the word, and the word decodes to the command. -/
def Obligations.EncodingExamplesOfRule81 : Prop :=
  (parseLine "APPLY 0, 32500".toList).map (·.map AsmLine.assemble) = some [some (.issue [0x30007EF4])] ∧
  (parseLine "APPLY cur, 32500".toList).map (·.map AsmLine.assemble) = some [some (.issue [0x37007EF4])] ∧
  (parseLine "APPLY 5, 65000".toList).map (·.map AsmLine.assemble) = some [some (.issue [0x3500FDE8])] ∧
  (parseLine "DECODE 1500".toList).map (·.map AsmLine.assemble) = some [some (.issue [0x500005DC])] ∧
  (parseLine "DECODE 500".toList).map (·.map AsmLine.assemble) = some [some (.issue [0x500001F4])] ∧
  (parseLine "DECODE 2500".toList).map (·.map AsmLine.assemble) = some [some (.issue [0x500009C4])] ∧
  (parseLine ".word 0x36000064".toList).map (·.map AsmLine.assemble) = some [some (.issue [0x36000064])] ∧
  (parseLine ".word 0x10000001".toList).map (·.map AsmLine.assemble) = some [some (.issue [0x10000001])] ∧
  (parseLine ".word 0x60000000".toList).map (·.map AsmLine.assemble) = some [some (.issue [0x60000000])] ∧
  decode 0x30007EF4 = some (.apply 0 32500) ∧ decode 0x37007EF4 = some (.apply 7 32500) ∧
  decode 0x3500FDE8 = some (.apply 5 65000) ∧ decode 0x500005DC = some (.decode 1500) ∧
  decode 0x500001F4 = some (.decode 500) ∧ decode 0x500009C4 = some (.decode 2500) ∧
  decode 0x36000064 = none ∧ decode 0x10000001 = none ∧ decode 0x60000000 = none

/-- R79 and R80 over every operand: what each line assembles to, `.word` and WAITCOMMIT included, and that an operand out of
range or the sector 6 is refused. The bound of a `.word` operand is the model's choice (log 15). -/
def Obligations.AssemblerRefusesWhatHasNoEncoding : Prop :=
  (∀ n d : Nat, (AsmLine.apply (.num n) d).assemble =
    if n ≤ 5 ∧ d ≤ 65535 then some (.issue [0x30000000#32 ||| BitVec.ofNat 32 n <<< 24 ||| BitVec.ofNat 32 d]) else none) ∧
  (∀ d : Nat, (AsmLine.apply .cur d).assemble =
    if d ≤ 65535 then some (.issue [0x37000000#32 ||| BitVec.ofNat 32 d]) else none) ∧
  (∀ w : Nat, (AsmLine.decode w).assemble =
    if w ≤ 65535 then some (.issue [0x50000000#32 ||| BitVec.ofNat 32 w]) else none) ∧
  (∀ d : Nat, (AsmLine.step d).assemble =
    if d ≤ 65535 then some (.issue [0x10000000, 0x37000000#32 ||| BitVec.ofNat 32 d]) else none) ∧
  (∀ d : Nat, (AsmLine.backstep d).assemble =
    if d ≤ 65535 then some (.issue [0x20000000, 0x37000000#32 ||| BitVec.ofNat 32 d]) else none) ∧
  (∀ n : Nat, (AsmLine.wait n).assemble = some (.issue (List.replicate n 0))) ∧
  (∀ n : Nat, (AsmLine.rawWord n).assemble = if n < 2 ^ 32 then some (.issue [BitVec.ofNat 32 n]) else none) ∧
  AsmLine.waitCommit.assemble = some .pollCommit ∧
  AsmLine.nop.assemble = some (.issue [0x00000000]) ∧ AsmLine.advance.assemble = some (.issue [0x10000000]) ∧
  AsmLine.retreat.assemble = some (.issue [0x20000000]) ∧ AsmLine.stop.assemble = some (.issue [0x40000000])

/-! ## What each command does (42_commutation.md, 43_throttle.md, 44_sequencer.md)

Each is a completion statement and a frame at once: the next state is the old one with the named elements written, so
every other element is unchanged. -/

/-- R200: NOP writes no state; its word is 0x00000000 and no other word with OP = 0; a clock with CMD_VALID = 0, whatever
stands on CMD, is the clock of a NOP; the clock's tick still runs; from reset it changes the counter alone (the
example, in every configuration with more than one tick a period). -/
def Obligations.NopWritesNothing : Prop :=
  (∀ w : Word, w.extractLsb' 28 4 = 0 → decode w = if w = 0 then some .nop else none) ∧
  (∀ s : State, exec .nop s = .next { s with resp := .ok }) ∧
  (∀ (s : State) (c : Word), step (s.drive ⟨false, false, c⟩) = step (s.drive (.command 0))) ∧
  (∀ s : State, s.params.Valid → s.dropInput.tick.channelWordsLegal = true →
    step (s.drive (.command 0)) = .next { s.dropInput.tick with resp := .ok }) ∧
  (∀ p : Params, p.Valid → 1 < p.period →
    step ((State.resetWith p).drive (.command 0)) = .next { State.resetWith p with cnt := 1 })

/-- R201: ADVANCE. 5 wraps to 0, STATUS.SECTOR shows the new sector, and nothing else but RESP is written. -/
def Obligations.AdvanceStepsTheSectorForward : Prop :=
  (∀ w : Word, w.extractLsb' 28 4 = 1 → decode w = if w = 0x10000000 then some .advance else none) ∧
  (∀ s : State, exec .advance s =
    .next { s with sector := BitVec.ofNat 3 ((s.sector.toNat + 1) % 6), resp := .ok }) ∧
  (∀ s t : State, exec .advance s = .next t → t.status.extractLsb' 0 3 = BitVec.ofNat 3 ((s.sector.toNat + 1) % 6)) ∧
  (∀ s t : State, s.sector = 5 → exec .advance s = .next t → t.sector = 0)

/-- R202: RETREAT. 0 wraps to 5, and nothing else but RESP is written. -/
def Obligations.RetreatStepsTheSectorBackward : Prop :=
  (∀ w : Word, w.extractLsb' 28 4 = 2 → decode w = if w = 0x20000000 then some .retreat else none) ∧
  (∀ s : State, exec .retreat s =
    .next { s with sector := BitVec.ofNat 3 ((s.sector.toNat + 5) % 6), resp := .ok }) ∧
  (∀ s t : State, s.sector = 0 → exec .retreat s = .next t → t.sector = 5)

/-- R160, R164: APPLY of an explicit sector or of the current one (S = 7) writes the row's three words, the saturated duty,
RUNNING and the commit request, and nothing else but RESP: not the sector, not `err`, no active element. -/
def Obligations.ApplyWritesTheRow : Prop :=
  (∀ w : Word, w.extractLsb' 28 4 = 3 → decode w =
    if w &&& 0xF8FF0000 = 0x30000000 ∧ w.extractLsb' 24 3 ≠ 6 then some (.apply (w.extractLsb' 24 3) (w.extractLsb' 0 16))
    else none) ∧
  (∀ (s : State) (k : SectorWord) (d : Half) (row : PhaseTriple DriveIntent),
    phaseTable (if k = 7 then s.sector else k) = some row →
    exec (.apply k d) s = .next { s with
      shadowCfg := ⟨cfgWord row.u, cfgWord row.v, cfgWord row.w⟩
      duty := BitVec.ofNat 16 (min d.toNat s.params.period)
      run := .running
      commitPending := true
      resp := .ok }) ∧
  (∀ k : SectorWord, k.toNat < 6 → ∃ row, phaseTable k = some row)

/-- R161: STOP writes the three FLOAT words, STOPPED and the commit request, and nothing else but RESP; doing it again
changes nothing more; its commit, PERIOD - cnt clocks on with a quiet host, copies the unchanged duty and leaves every switch
open, and so does, in every state, a STOP in the clock of the update event. -/
def Obligations.StopFloatsEveryPhase : Prop :=
  (∀ w : Word, w.extractLsb' 28 4 = 4 → decode w = if w = 0x40000000 then some .stop else none) ∧
  (∀ s : State, exec .stop s =
    .next { s with shadowCfg := ⟨0x1C, 0x1C, 0x1C⟩, run := .stopped, commitPending := true, resp := .ok }) ∧
  (∀ s t : State, exec .stop s = .next t → exec .stop t = .next t) ∧
  (∀ s t : State, s.params.Valid → s.cnt.toNat = s.params.period - 1 →
    step (s.drive (.command 0x40000000)) = .next t → t.ccrActive = s.duty ∧ t.allOpen) ∧
  (∀ s : State, s.Inv → s.nextInput = .command 0x40000000 →
    (∀ j, 1 ≤ j → j < s.params.period - s.cnt.toNat → (s.inputAt j).quiet = true) →
    ∃ t, clocks (s.params.period - s.cnt.toNat) s = .next t ∧ t.duty = s.duty ∧ t.ccrActive = s.duty ∧ t.allOpen)

/-- R181, R222: an implausible width writes no state and answers REJECT; the clock is otherwise an idle one, tick
included. -/
def Obligations.ImplausibleWidthIsRejected : Prop :=
  ∀ (s : State) (w : Half), (w.toNat < s.params.pMin ∨ s.params.pMax < w.toNat) →
    exec (.decode w) s = .next { s with resp := .reject } ∧
    (∀ t, step (s.drive .idle) = .next t →
      step (s.drive (.command (encode (.decode w)))) = .next { t with resp := .reject })

/-- R182, R223, R180: a plausible width below W_STOP writes duty 0, the FLOAT words, STOPPED and the commit request, and
nothing else but RESP = OK: the sector does not advance. -/
def Obligations.StopZoneWidthStops : Prop :=
  ∀ (s : State) (w : Half), s.params.pMin ≤ w.toNat → w.toNat ≤ s.params.pMax → w.toNat < s.params.wStop →
    exec (.decode w) s = .next { s with
      duty := 0, shadowCfg := ⟨0x1C, 0x1C, 0x1C⟩, run := .stopped, commitPending := true, resp := .ok }

/-- R180, R183, R184, R187: a running DECODE writes the exact duty, the row of the new or the old sector by STEP_ORDER, the
advanced sector when ADVANCE_ON_DECODE holds, RUNNING and the commit request, and nothing else but RESP = OK. -/
def Obligations.RunningWidthDrivesTheMotor : Prop :=
  ∀ (s : State) (w : Half) (row : PhaseTriple DriveIntent), s.params.Valid →
    s.params.wStop ≤ w.toNat → w.toNat ≤ s.params.pMax →
    phaseTable (if s.params.advanceOnDecode = true ∧ s.params.stepOrder = .advanceThenApply
      then BitVec.ofNat 3 ((s.sector.toNat + 1) % 6) else s.sector) = some row →
    ∃ t, exec (.decode w) s = .next t ∧
      t = { s with
        sector := if s.params.advanceOnDecode then BitVec.ofNat 3 ((s.sector.toNat + 1) % 6) else s.sector
        duty := t.duty
        shadowCfg := ⟨cfgWord row.u, cfgWord row.v, cfgWord row.w⟩
        run := .running
        commitPending := true
        resp := .ok } ∧
      t.duty.toNat = (min (max w.toNat s.params.wMin) s.params.wMax - s.params.wMin) * s.params.k

/-- R186, R184: over the operating window the duty does not fall as the width rises, rises strictly from W_STOP on, and never
exceeds PERIOD; a stop's duty counts as 0. -/
def Obligations.ThrottleIsMonotone : Prop :=
  ∀ (s t₁ t₂ : State) (w₁ w₂ : Half), s.params.Valid →
    s.params.wMin ≤ w₁.toNat → w₁.toNat < w₂.toNat → w₂.toNat ≤ s.params.wMax →
    exec (.decode w₁) s = .next t₁ → exec (.decode w₂) s = .next t₂ →
    t₁.duty.toNat ≤ t₂.duty.toNat ∧ (s.params.wStop ≤ w₁.toNat → t₁.duty.toNat < t₂.duty.toNat) ∧
    t₂.duty.toNat ≤ s.params.period

/-- R189: for a plausible width, DECODE runs the motor exactly when the mapped duty reaches the duty of W_STOP, so the
document's two ways of stating the threshold agree. -/
def Obligations.StopThresholdsAgree : Prop :=
  ∀ (s t : State) (w : Half), s.params.Valid → s.params.pMin ≤ w.toNat → w.toNat ≤ s.params.pMax →
    exec (.decode w) s = .next t →
    (t.run = .running ↔
      (s.params.wStop - s.params.wMin) * s.params.k ≤
        (min (max w.toNat s.params.wMin) s.params.wMax - s.params.wMin) * s.params.k)

/-- R55: a command other than ADVANCE, RETREAT and a DECODE that advances the sector leaves the state, when repeated, as one
of them did. -/
def Obligations.RepeatedCommandsAreIdempotent : Prop :=
  ∀ (i : Instr) (s t : State), i ≠ .advance → i ≠ .retreat →
    (∀ w, i = .decode w → s.params.advanceOnDecode = true → w.toNat < s.params.wStop ∨ s.params.pMax < w.toNat) →
    exec i s = .next t → exec i t = .next t

/-- R122, R56, R33, R230: of the outputs that show state a command changes STATUS alone, and not the timing state: GATE, ACTCFG, the active configuration, the compare
value, the counter and the dead-time state are as before, and so are `err`, the host's drives and the configuration. -/
def Obligations.CommandsChangeNoOutput : Prop :=
  ∀ (i : Instr) (s t : State), exec i s = .next t →
    t.gate = s.gate ∧ t.actcfg = s.actcfg ∧ t.activeCfg = s.activeCfg ∧ t.ccrActive = s.ccrActive ∧ t.cnt = s.cnt ∧
    t.dtReq = s.dtReq ∧ t.dtSince = s.dtSince ∧ t.err = s.err ∧ t.inputs = s.inputs ∧ t.params = s.params

/-- R106, 93 U1: an APPLY or a DECODE that would read the table outside 0..5 stops with the named fault; APPLY does so for
the operand 6 too, which no word decodes to. -/
def Obligations.TableReadOutsideItsRowsFaults : Prop :=
  (∀ s : SectorWord, phaseTable s = none ↔ 6 ≤ s.toNat) ∧
  (∀ (s : State) (d : Half), exec (.apply 6 d) s = .fault .phaseTableIndex) ∧
  (∀ (s : State) (d : Half), 6 ≤ s.sector.toNat → exec (.apply 7 d) s = .fault .phaseTableIndex) ∧
  (∀ (s : State) (w : Half), 6 ≤ s.sector.toNat → s.params.pMin ≤ w.toNat → s.params.wStop ≤ w.toNat →
    w.toNat ≤ s.params.pMax → ¬(s.params.advanceOnDecode = true ∧ s.params.stepOrder = .advanceThenApply) →
    exec (.decode w) s = .fault .phaseTableIndex)

/-! ## The table and the channel words (40_phase_table.md, 41_channel_driver.md) -/

/-- R103, R104, R105, R107: each row has one HIGH, one LOW and one FLOAT; from a sector to the next, one phase goes to FLOAT,
one leaves it for the polarity of the first, and the third keeps its intent; backward steps visit the same rows in reverse;
the HIGH role goes U, V, W and the LOW role V, W, U, two sectors each; the six rows are distinct. Stated of the rows of R102, the model's table (log 10). -/
def Obligations.PhaseTableIsSixStep : Prop :=
  (∀ (s : SectorWord) (row : PhaseTriple DriveIntent), phaseTable s = some row →
    ∃ h l f : Phase, row.get h = .high ∧ row.get l = .low ∧ row.get f = .float ∧ h ≠ l ∧ l ≠ f ∧ h ≠ f) ∧
  (∀ (s : SectorWord) (r r' : PhaseTriple DriveIntent), phaseTable s = some r →
    phaseTable (BitVec.ofNat 3 ((s.toNat + 1) % 6)) = some r' →
    ∃ off on keep : Phase, off ≠ on ∧ off ≠ keep ∧ on ≠ keep ∧ r.get off ≠ .float ∧ r'.get off = .float ∧
      r.get on = .float ∧ r'.get on = r.get off ∧ r'.get keep = r.get keep ∧ r.get keep ≠ .float) ∧
  (∀ s : SectorWord, s.toNat < 6 →
    BitVec.ofNat 3 (((BitVec.ofNat 3 ((s.toNat + 5) % 6)).toNat + 1) % 6) = s) ∧
  (∀ s s' : SectorWord, phaseTable s = phaseTable s' → phaseTable s ≠ none → s = s') ∧
  (∀ (s : SectorWord) (row : PhaseTriple DriveIntent), phaseTable s = some row →
    row.get (if s.toNat < 2 then .u else if s.toNat < 4 then .v else .w) = .high ∧
    row.get (if s = 0 ∨ s = 5 then .v else if s.toNat < 3 then .w else .u) = .low)

/-- R121, R125, R126: the three words, and what each requests: HIGH the reference and its inverse, LOW the low side, FLOAT
nothing; in FORCE_LOW mode the counter and the compare value have no part in it. -/
def Obligations.RequestsOfTheThreeWords : Prop :=
  cfgWord .high = 0x19 ∧ cfgWord .low = 0x18 ∧ cfgWord .float = 0x1C ∧
  (∀ cnt ccr : Half, channelRequest 0x19 cnt ccr = ⟨decide (cnt.toNat < ccr.toNat), !decide (cnt.toNat < ccr.toNat)⟩) ∧
  (∀ cnt ccr : Half, channelRequest 0x18 cnt ccr = ⟨false, true⟩) ∧
  (∀ cnt ccr : Half, channelRequest 0x1C cnt ccr = ⟨false, false⟩)

/-- R120, R125, R126 for all 32 words: the request pair from the five bits MODE, POL, POLN, EN, ENN. -/
def Obligations.RequestsOfEveryWord : Prop :=
  ∀ (c : ChanWord) (cnt ccr : Half),
    (channelRequest c cnt ccr).a =
      (c.getLsbD 3 && ((c.getLsbD 0 && decide (cnt.toNat < ccr.toNat)) ^^ c.getLsbD 1)) ∧
    (channelRequest c cnt ccr).b =
      (c.getLsbD 4 && (!(c.getLsbD 0 && decide (cnt.toNat < ccr.toNat)) ^^ c.getLsbD 2))

/-! ## The clock (20_memory.md, 41_channel_driver.md, 42_commutation.md) -/

/-- R52: when the word on the port decodes to an instruction, the step runs it at this state (its drive used up) and then
ticks once. -/
def Obligations.StepRunsTheDecodedInstruction : Prop :=
  ∀ (s : State) (w : Word) (i : Instr), s.params.Valid → decode w = some i →
    (∀ t, exec i s.dropInput = .next t → t.tick.channelWordsLegal = true →
      step (s.withFetchWord 32 w.toNat) = .next t.tick) ∧
    (∀ t, exec i s.dropInput = .next t → t.tick.channelWordsLegal = false →
      step (s.withFetchWord 32 w.toNat) = .fault .channelWord) ∧
    (∀ r, exec i s.dropInput = .fault r → step (s.withFetchWord 32 w.toNat) = .fault r) ∧
    (∀ r, exec i s.dropInput ≠ .refused r)

/-- R124 to R127: in every clock without reset, whatever the command, the counter counts or wraps, every channel's request
is computed from the configuration, counter and compare value of the same tick, and every dead-time counter restarts at a
change of its own request and else rises to DT. -/
def Obligations.EveryClockTicks : Prop :=
  ∀ s t : State, s.params.Valid → s.nextInput.rst = false → step s = .next t →
    t.cnt = (if s.cnt.toNat = s.params.period - 1 then 0 else s.cnt + 1) ∧
    (∀ p, t.dtReq.get p = channelRequest (t.activeCfg.get p) t.cnt t.ccrActive) ∧
    (∀ p, (t.dtSince.get p).toNat =
      if t.dtReq.get p = s.dtReq.get p then min ((s.dtSince.get p).toNat + 1) s.params.dt else 0) ∧
    t.inputs = s.inputs.tail ∧ t.params = s.params

/-- R162, R163, R165: in a clock without reset the three active words and the compare value all stay, or, at the wrap of the
counter and nowhere else, all become the shadow and the duty that stand after the clock's command, and the request is
cleared; a request that stands when the counter wraps is always served. -/
def Obligations.CommitIsAtomic : Prop :=
  ∀ s t : State, s.params.Valid → s.nextInput.rst = false → step s = .next t →
    ((t.activeCfg = s.activeCfg ∧ t.ccrActive = s.ccrActive) ∨
      (s.cnt.toNat = s.params.period - 1 ∧ t.cnt = 0 ∧ t.commitPending = false ∧
        t.activeCfg = t.shadowCfg ∧ t.ccrActive = t.duty)) ∧
    (s.cnt.toNat = s.params.period - 1 → t.commitPending = false ∧
      (s.commitPending = true → t.activeCfg = t.shadowCfg ∧ t.ccrActive = t.duty)) ∧
    (s.cnt.toNat ≠ s.params.period - 1 → t.activeCfg = s.activeCfg ∧ t.ccrActive = s.ccrActive ∧
      (s.commitPending = true → t.commitPending = true))

/-- R167: a command that writes the shadow, in the clock that starts with `cnt = c`, is committed in the tick of the clock
that starts with `cnt = PERIOD-1`, PERIOD - c clocks on, counting its own; until then PENDING reads 1 and the active
elements are the old ones. The host is quiet after the command. -/
def Obligations.CommitLatency : Prop :=
  ∀ (s s₁ : State) (i : Instr), s.Inv → i.wellFormed = true → s.nextInput = .command (encode i) →
    ((∃ k d, i = .apply k d) ∨ i = .stop ∨ (∃ w, i = .decode w ∧ s.params.pMin ≤ w.toNat ∧ w.toNat ≤ s.params.pMax)) →
    (∀ j, 1 ≤ j → j < s.params.period - s.cnt.toNat → (s.inputAt j).quiet = true) →
    exec i s.dropInput = .next s₁ →
    (∃ t, clocks (s.params.period - s.cnt.toNat) s = .next t ∧ t.cnt = 0 ∧ t.commitPending = false ∧
      t.activeCfg = s₁.shadowCfg ∧ t.ccrActive = s₁.duty) ∧
    (∀ j, 1 ≤ j → j < s.params.period - s.cnt.toNat → ∃ u, clocks j s = .next u ∧ u.commitPending = true ∧
      u.activeCfg = s.activeCfg ∧ u.ccrActive = s.ccrActive)

/-- R188, R248, guarantee (c): after a STOP or a DECODE below the stop threshold, RUN reads STOPPED from the next clock on,
and from the next update event, at most PERIOD clocks on, every switch is open for as long as the host is quiet. -/
def Obligations.StopOpensEverySwitch : Prop :=
  ∀ (s : State) (i : Instr) (n : Nat), s.Inv → s.nextInput = .command (encode i) →
    (i = .stop ∨ (∃ w, i = .decode w ∧ s.params.pMin ≤ w.toNat ∧ w.toNat ≤ s.params.pMax ∧ w.toNat < s.params.wStop)) →
    1 ≤ n → (∀ j, 1 ≤ j → j < n → (s.inputAt j).quiet = true) →
    ∃ t, clocks n s = .next t ∧ t.run = .stopped ∧
      (s.params.period - s.cnt.toNat ≤ n → t.allOpen ∧ t.gate = 0 ∧ t.commitPending = false)

/-- R166: STOP and then APPLY of an explicit sector, in two clocks, leave exactly the row of that sector, whatever the shadow
held before. -/
def Obligations.StopThenApplyLeavesTheRow : Prop :=
  ∀ (s : State) (k : SectorWord) (d : Half) (row : PhaseTriple DriveIntent), s.Inv →
    s.inputAt 0 = .command (encode .stop) → s.inputAt 1 = .command (encode (.apply k d)) → phaseTable k = some row →
    ∃ t, clocks 2 s = .next t ∧ t.shadowCfg = ⟨cfgWord row.u, cfgWord row.v, cfgWord row.w⟩ ∧ t.run = .running ∧
      t.duty.toNat = min d.toNat s.params.period ∧ t.sector = s.sector ∧
      (t.commitPending = true ∨ t.activeCfg = t.shadowCfg)

/-- R203: n ADVANCEs move the sector from s to (s + n) mod 6 and n RETREATs to (s - n) mod 6, one a clock, leaving run, duty
and shadow alone. -/
def Obligations.SectorStepsAddUp : Prop :=
  ∀ (s : State) (n : Nat), s.Inv →
    ((∀ j, j < n → s.inputAt j = .command 0x10000000) → ∃ t, clocks n s = .next t ∧
      t.sector.toNat = (s.sector.toNat + n) % 6 ∧ t.run = s.run ∧ t.duty = s.duty ∧ t.shadowCfg = s.shadowCfg) ∧
    ((∀ j, j < n → s.inputAt j = .command 0x20000000) → ∃ t, clocks n s = .next t ∧
      (t.sector.toNat + n) % 6 = s.sector.toNat ∧ t.run = s.run ∧ t.duty = s.duty ∧ t.shadowCfg = s.shadowCfg)

/-! ## The channel driver's outputs (41_channel_driver.md, 70_reset_and_hazards.md) -/

/-- R127, R128: after a change of a phase's request pair both switches are off for exactly DT ticks, the tick of the change
among them; then, while the pair stays, the switch whose request is 1 conducts. -/
def Obligations.DeadTimeIsExactlyDt : Prop :=
  ∀ (s s₀ t : State) (p : Phase) (k : Nat), s.params.Valid → s.nextInput.rst = false → step s = .next s₀ →
    s₀.dtReq.get p ≠ s.dtReq.get p → s₀.NoReset k →
    (∀ j u, j ≤ k → clocks j s₀ = .next u → u.dtReq.get p = s₀.dtReq.get p) → clocks k s₀ = .next t →
    t.highOn p = ((s₀.dtReq.get p).a && decide (s.params.dt ≤ k)) ∧
    t.lowOn p = ((s₀.dtReq.get p).b && decide (s.params.dt ≤ k))

/-- R132, the second half: between one switch of a phase conducting and the other conducting lie at least DT ticks, through
any commands, commits, illegal words and resets. -/
def Obligations.DeadTimeSeparatesTheSwitches : Prop :=
  ∀ (s t : State) (p : Phase) (n : Nat), s.Inv → clocks n s = .next t →
    (s.lowOn p = true → t.highOn p = true → s.params.dt < n) ∧
    (s.highOn p = true → t.lowOn p = true → s.params.dt < n)

/-- Guarantee (a), R132: in every state that meets R35 no phase has both switches on. -/
def Obligations.NoShootThrough : Prop := ∀ s : State, s.Inv → s.noShootThrough

/-- R131: a phase whose active configuration is FLOAT has both switches open, in the tick of its commit too. -/
def Obligations.FloatPhaseIsOpen : Prop :=
  ∀ (s : State) (p : Phase), s.Consistent → s.activeCfg.get p = 0x1C → s.highOn p = false ∧ s.lowOn p = false

/-- R129, R247: one PWM period of a HIGH phase whose reference rises at `cnt = 0`, for 0 < c < PERIOD and any commands but a
reset: the high side is on from tick DT to c - 1 and the low side from tick c + DT to PERIOD - 1, and at no other tick. -/
def Obligations.HighPhaseWaveform : Prop :=
  ∀ (s : State) (p : Phase) (k : Nat), s.Consistent → s.cnt = 0 → s.activeCfg.get p = 0x19 →
    (s.dtSince.get p).toNat = 0 → 0 < s.ccrActive.toNat → s.ccrActive.toNat < s.params.period →
    k < s.params.period → s.NoReset k →
    ∃ t, clocks k s = .next t ∧ t.cnt.toNat = k ∧
      (t.highOn p = true ↔ s.params.dt ≤ k ∧ k < s.ccrActive.toNat) ∧
      (t.lowOn p = true ↔ s.ccrActive.toNat + s.params.dt ≤ k)

/-- R129 for c = 0 and c = PERIOD, R130: while no commit changes it, a LOW phase and a HIGH phase at duty 0 never drive the
high side and conduct on the low side after DT ticks; a HIGH phase at full duty the other way round. -/
def Obligations.SteadyPhasesConduct : Prop :=
  ∀ (s t : State) (p : Phase) (k : Nat), s.Consistent → s.NoReset k →
    (∀ j u, j ≤ k → clocks j s = .next u → u.activeCfg = s.activeCfg ∧ u.ccrActive = s.ccrActive) →
    clocks k s = .next t →
    (s.activeCfg.get p = 0x18 ∨ (s.activeCfg.get p = 0x19 ∧ s.ccrActive = 0) →
      t.highOn p = false ∧ (s.params.dt ≤ k → t.lowOn p = true)) ∧
    (s.activeCfg.get p = 0x19 ∧ s.ccrActive.toNat = s.params.period →
      t.lowOn p = false ∧ (s.params.dt ≤ k → t.highOn p = true))

/-- R246: at a clock that takes one table row to another, a phase that enters FLOAT is open at once, and a phase that leaves
FLOAT is still open for DT ticks from the commit's on, whatever happens in them. -/
def Obligations.CommutationCostsDeadTime : Prop :=
  ∀ (s t u : State) (row row' : PhaseTriple DriveIntent) (p : Phase) (k : Nat), s.Consistent →
    step s = .next t → s.nextInput.rst = false → s.activeCfg = rowWords row → t.activeCfg = rowWords row' →
    (row'.get p = .float → t.highOn p = false ∧ t.lowOn p = false) ∧
    (row.get p = .float → row'.get p ≠ .float → k < s.params.dt → clocks k t = .next u →
      u.highOn p = false ∧ u.lowOn p = false)

/-- R246, R130: a phase that is LOW before and after a clock and conducts on its low side keeps conducting: a commit puts no
gap of its own there. -/
def Obligations.LowPhaseKeepsConducting : Prop :=
  ∀ (s t : State) (p : Phase), s.Consistent → s.nextInput.rst = false → step s = .next t →
    s.activeCfg.get p = 0x18 → t.activeCfg.get p = 0x18 → s.lowOn p = true → t.lowOn p = true

/-! ## Ports (10_state.md R37 to R41) -/

/-- R37, R205: the layout of STATUS; `current()` is its SECTOR field. -/
def Obligations.StatusLayout : Prop :=
  ∀ s : State,
    s.status.extractLsb' 0 3 = s.sector ∧ (s.status.getLsbD 3 = true ↔ s.run = .running) ∧
    s.status.getLsbD 4 = s.commitPending ∧ s.status.getLsbD 5 = s.err ∧ s.status.extractLsb' 6 10 = 0 ∧
    s.status.extractLsb' 16 16 = s.duty ∧ s.current = s.sector

/-- R39, R128, R241: the six gate bits from the dead-time state, and GATE = 0 while RST is asserted. -/
def Obligations.GateLayout : Prop :=
  ∀ s : State,
    s.gate.getLsbD 0 = (s.dtReq.u.a && decide (s.dtSince.u.toNat = s.params.dt)) ∧
    s.gate.getLsbD 1 = (s.dtReq.u.b && decide (s.dtSince.u.toNat = s.params.dt)) ∧
    s.gate.getLsbD 2 = (s.dtReq.v.a && decide (s.dtSince.v.toNat = s.params.dt)) ∧
    s.gate.getLsbD 3 = (s.dtReq.v.b && decide (s.dtSince.v.toNat = s.params.dt)) ∧
    s.gate.getLsbD 4 = (s.dtReq.w.a && decide (s.dtSince.w.toNat = s.params.dt)) ∧
    s.gate.getLsbD 5 = (s.dtReq.w.b && decide (s.dtSince.w.toNat = s.params.dt)) ∧
    (s.nextInput.rst = true → s.gatePort = 0) ∧ (s.nextInput.rst = false → s.gatePort = s.gate)

/-- R40: the layout of ACTCFG, and its value after reset. -/
def Obligations.ActcfgLayout : Prop :=
  (∀ s : State, s.actcfg.extractLsb' 0 5 = s.activeCfg.u ∧ s.actcfg.extractLsb' 5 5 = s.activeCfg.v ∧
    s.actcfg.extractLsb' 10 5 = s.activeCfg.w) ∧
  (∀ p : Params, (State.resetWith p).actcfg = 0x739C)

/-- R38, R220, R224: the response of a clock: ILLEGAL exactly for an illegal word, REJECT exactly for a DECODE with an
implausible width, OK otherwise, a reset clock and an idle one included; code 3 is never driven. -/
def Obligations.ResponseOfAClock : Prop :=
  (Resp.code .ok = 0 ∧ Resp.code .reject = 1 ∧ Resp.code .illegal = 2) ∧
  ∀ s t : State, step s = .next t →
    (t.resp = .illegal ↔ s.nextInput.rst = false ∧ s.nextInput.cmdValid = true ∧ decode s.nextInput.cmd = none) ∧
    (t.resp = .reject ↔ s.nextInput.rst = false ∧ s.nextInput.cmdValid = true ∧
      ∃ w, decode s.nextInput.cmd = some (.decode w) ∧ (w.toNat < s.params.pMin ∨ s.params.pMax < w.toNat)) ∧
    t.resp = s.respPort ∧ t.resp.code ≠ 3

/-! ## Reset and errors (60_exceptions.md, 70_reset_and_hazards.md) -/

/-- R240: every element of ResetState, the ports in it, the invariants of R35, and that its dead-time state does not change
while no commit changes the configuration; for every configuration. `State.reset` is one of these states. -/
def Obligations.ResetStateIsRule240 : Prop :=
  (∃ p : Params, p.Valid ∧ State.reset = State.resetWith p) ∧
  ∀ p : Params, p.Valid →
    (State.resetWith p).sector = 0 ∧ (State.resetWith p).run = .stopped ∧ (State.resetWith p).duty = 0 ∧
    (State.resetWith p).shadowCfg = ⟨0x1C, 0x1C, 0x1C⟩ ∧ (State.resetWith p).commitPending = false ∧
    (State.resetWith p).activeCfg = ⟨0x1C, 0x1C, 0x1C⟩ ∧ (State.resetWith p).ccrActive = 0 ∧
    (State.resetWith p).cnt = 0 ∧ (State.resetWith p).err = false ∧ (State.resetWith p).params = p ∧
    (∀ q, (State.resetWith p).dtReq.get q = ⟨false, false⟩) ∧
    (∀ q, ((State.resetWith p).dtSince.get q).toNat = p.dt) ∧
    (State.resetWith p).status = 0 ∧ (State.resetWith p).actcfg = 0x739C ∧ (State.resetWith p).gate = 0 ∧
    (State.resetWith p).Inv ∧
    (∀ s t : State, s.params = p → s.activeCfg = (State.resetWith p).activeCfg → s.dtReq = (State.resetWith p).dtReq →
      s.dtSince = (State.resetWith p).dtSince → step s = .next t → t.activeCfg = s.activeCfg →
      t.dtReq = s.dtReq ∧ t.dtSince = s.dtSince)

/-- R241, R224 item 1: a clock with RST = 1, from any state and with any command on the port, gives ResetState; RESP is OK
and GATE reads 0 in that clock; the configuration and the host's further drives stay. -/
def Obligations.ResetClockGivesResetState : Prop :=
  ∀ s : State, s.params.Valid → s.nextInput.rst = true →
    step s = .next { State.resetWith s.params with inputs := s.inputs.tail } ∧ s.respPort = .ok ∧ s.gatePort = 0

/-- R221, the block's own effect of an illegal word: `err` is set and RESP reads ILLEGAL, and the clock is otherwise an idle
one, tick and commit included (log 7). -/
def Obligations.IllegalWordSetsErrOnly : Prop :=
  (∀ (s t : State) (w : Word), decode w = none → step (s.drive .idle) = .next t →
    step (s.drive (.command w)) = .next { t with err := true, resp := .illegal }) ∧
  (∀ (s : State) (w : Word), decode w = none → execWord w s = .next { s with err := true, resp := .illegal })

/-- R33: `err` is sticky: it is set after a clock without reset exactly when it was set before or the clock's command was
illegal, and a reset clock clears it. -/
def Obligations.ErrIsSticky : Prop :=
  ∀ s t : State, step s = .next t →
    (s.nextInput.rst = false → (t.err = true ↔ s.err = true ∨ s.nextInput.illegal = true)) ∧
    (s.nextInput.rst = true → t.err = false)

/-- R221's reading in which a model treats an illegal word as a fault, and its premise ERR = 0: `claimStep` faults on every
illegal word, agrees with `step` on every other clock, and keeps `err` 0. DESIGN CHOICE of the model (log 7). -/
def Obligations.ClaimStepStopsOnIllegalWords : Prop :=
  ∀ s : State, s.params.Valid →
    (s.nextInput.illegal = true → claimStep s = .fault .illegalCommand) ∧
    (s.nextInput.illegal = false → claimStep s = step s) ∧
    (∀ t, claimStep s = .next t → s.err = false → t.err = false)

/-- 00_scope.md R9, 93 U8: a record that breaks a constraint is refused, and nothing else is. -/
def Obligations.BrokenConfigurationIsRefused : Prop :=
  ∀ s : State, (¬s.params.Valid → step s = .refused .brokenConfiguration) ∧
    (s.params.Valid → ∀ r, step s ≠ .refused r)

/-! ## Whole-machine rules (10_state.md) -/

/-- R22, the column "written by", with R23, R24, R25, R26, R27, R33: which commands change which element in a clock without
reset. -/
def Obligations.WritersOfEachElement : Prop :=
  ∀ s t : State, step s = .next t → s.nextInput.rst = false →
    (t.sector ≠ s.sector → s.nextInput.cmdValid = true ∧
      (decode s.nextInput.cmd = some .advance ∨ decode s.nextInput.cmd = some .retreat ∨
        ∃ w, decode s.nextInput.cmd = some (.decode w) ∧ s.params.advanceOnDecode = true ∧
          s.params.wStop ≤ w.toNat ∧ w.toNat ≤ s.params.pMax)) ∧
    ((t.run ≠ s.run ∨ t.shadowCfg ≠ s.shadowCfg ∨ (s.commitPending = false ∧ t.commitPending = true)) →
      s.nextInput.cmdValid = true ∧
      ((∃ k d, decode s.nextInput.cmd = some (.apply k d)) ∨ decode s.nextInput.cmd = some .stop ∨
        ∃ w, decode s.nextInput.cmd = some (.decode w) ∧ s.params.pMin ≤ w.toNat ∧ w.toNat ≤ s.params.pMax)) ∧
    (t.duty ≠ s.duty → s.nextInput.cmdValid = true ∧
      ((∃ k d, decode s.nextInput.cmd = some (.apply k d)) ∨
        ∃ w, decode s.nextInput.cmd = some (.decode w) ∧ s.params.pMin ≤ w.toNat ∧ w.toNat ≤ s.params.pMax)) ∧
    (t.err ≠ s.err → s.nextInput.illegal = true)

/-- R43: no clock, no command and no reset changes the configuration record. -/
def Obligations.ConfigurationNeverChanges : Prop :=
  ∀ (n : Nat) (s t : State), clocks n s = .next t → t.params = s.params

/-- R204: the run-state machine, row by row, over one clock with a command and no reset. -/
def Obligations.RunStateMachine : Prop :=
  ∀ (s t : State) (w : Word), s.Inv → s.nextInput = .command w → step s = .next t →
    (decode w = none ∨ decode w = some .nop →
      t.run = s.run ∧ t.sector = s.sector ∧ t.shadowCfg = s.shadowCfg) ∧
    (decode w = some .advance →
      t.run = s.run ∧ t.sector.toNat = (s.sector.toNat + 1) % 6 ∧ t.shadowCfg = s.shadowCfg) ∧
    (decode w = some .retreat →
      t.run = s.run ∧ t.sector.toNat = (s.sector.toNat + 5) % 6 ∧ t.shadowCfg = s.shadowCfg) ∧
    (∀ k d, decode w = some (.apply k d) → t.run = .running ∧ t.sector = s.sector ∧
      ∃ row, phaseTable (if k = 7 then s.sector else k) = some row ∧ t.shadowCfg = rowWords row) ∧
    (decode w = some .stop → t.run = .stopped ∧ t.sector = s.sector ∧ t.shadowCfg = floatWords) ∧
    (∀ x, decode w = some (.decode x) →
      (x.toNat < s.params.pMin ∨ s.params.pMax < x.toNat →
        t.run = s.run ∧ t.sector = s.sector ∧ t.shadowCfg = s.shadowCfg) ∧
      (s.params.pMin ≤ x.toNat → x.toNat ≤ s.params.pMax → x.toNat < s.params.wStop →
        t.run = .stopped ∧ t.sector = s.sector ∧ t.shadowCfg = floatWords) ∧
      (s.params.wStop ≤ x.toNat → x.toNat ≤ s.params.pMax →
        t.run = .running ∧
        t.sector.toNat = (if s.params.advanceOnDecode then (s.sector.toNat + 1) % 6 else s.sector.toNat) ∧
        ∃ row, phaseTable (if s.params.stepOrder = .advanceThenApply then t.sector else s.sector) = some row ∧
          t.shadowCfg = rowWords row))

/-- R42, R230: what a program cannot see has no part in what commands do to what it can: two states that agree on sector,
run, duty, `err`, configuration and host agree on them, and on RESP, after a clock, whatever their shadows, counters, active
elements, pending flags and dead-time states; the shadow, hidden too, takes no part of the others into itself. -/
def Obligations.HiddenStateDoesNotReachCommands : Prop :=
  ∀ s s' t t' : State, s.sector = s'.sector → s.run = s'.run → s.duty = s'.duty →
    s.err = s'.err → s.params = s'.params → s.inputs = s'.inputs → step s = .next t → step s' = .next t' →
    t.sector = t'.sector ∧ t.run = t'.run ∧ t.duty = t'.duty ∧ t.err = t'.err ∧ t.resp = t'.resp ∧
    t.inputs = t'.inputs ∧ (s.shadowCfg = s'.shadowCfg → t.shadowCfg = t'.shadowCfg)

/-- R250 with conflict C8: under a host that issues no command but DECODE, NOP words counting as idle clocks (log 18), STOPPED is left only by a running DECODE and the sector
moves only with one. -/
def Obligations.ThrottleDrivenHostStartsByDecode : Prop :=
  ∀ s t : State, step s = .next t → s.nextInput.rst = false → s.nextInput.throttleDriven = true →
    ((s.run = .stopped ∧ t.run = .running) ∨ t.sector ≠ s.sector) →
    ∃ w, decode s.nextInput.cmd = some (.decode w) ∧ s.params.wStop ≤ w.toNat ∧ w.toNat ≤ s.params.pMax ∧
      t.run = .running ∧ t.resp = .ok

/-! ## Invariants (10_state.md R35) -/

/-- ResetState meets the invariants of R35 and the two beyond it, for every configuration and every host. -/
def Obligations.ResetIsConsistent : Prop :=
  ∀ (p : Params) (host : List PortInput), p.Valid → State.Consistent { State.resetWith p with inputs := host }

/-- R35: every clock keeps the six invariants, from every state that meets them. -/
def Obligations.EveryClockKeepsRule35 : Prop := ∀ s t : State, s.Inv → step s = .next t → t.Inv

/-- R163, R165, R31: every clock keeps, beyond R35, that the active configuration is one whole row or all FLOAT and that the
request pairs are those of the active configuration and the counter. -/
def Obligations.EveryClockKeepsConsistency : Prop :=
  ∀ s t : State, s.Consistent → step s = .next t → t.Consistent

/-- R52, R226: in a state that meets R35 every clock completes, whatever the host drives: no command, no illegal word and no
tick stops the block. -/
def Obligations.EveryClockCompletes : Prop := ∀ s : State, s.Inv → ∃ t, step s = .next t

/-- R35, R132, R163: every state that any host can bring the block to, in any configuration, meets the invariants, drives no
phase's two switches at once, and has a next state. -/
def Obligations.ReachableStatesAreSafe : Prop :=
  ∀ s : State, s.Reachable → s.Consistent ∧ s.noShootThrough ∧ ∃ t, step s = .next t

/-- R80: WAITCOMMIT ends within PERIOD clocks, with PENDING at 0 and the shadow and duty it waited for active; what the
commands wrote is untouched. -/
def Obligations.WaitCommitEnds : Prop :=
  ∀ s : State, s.Inv → ∃ t, HostAction.pollCommit.run s = .next t ∧ t.commitPending = false ∧
    t.activeCfg = s.shadowCfg ∧ t.ccrActive = s.duty ∧ t.sector = s.sector ∧ t.run = s.run ∧ t.err = s.err

/-- R8, R135: F_CLK is positive and takes no part in any run: with another clock the block does the same. -/
def Obligations.ClockFrequencyTakesNoPart : Prop :=
  (∀ p : Params, 0 < p.fClk) ∧
  ∀ (n c : Nat) (s : State),
    (∀ t, clocks n s = .next t → clocks n (s.onClock c) = .next (t.onClock c)) ∧
    (∀ r, clocks n s = .fault r → clocks n (s.onClock c) = .fault r) ∧
    (∀ r, clocks n s = .refused r → clocks n (s.onClock c) = .refused r)
end

