-- ==== Sys2Proof/Laws/Decode.lean ====
section
/-! SUPPORT. Reading the fields of a packed word, and a word as the pack of its fields. -/

namespace Sys2Proof

theorem packWord_getLsbD (op : BitVec 4) (s : SectorWord) (data : Half) (i : Nat) :
    (packWord op s data).getLsbD i =
      if i < 16 then data.getLsbD i else if i < 24 then false else if i < 27 then s.getLsbD (i - 24)
      else if i < 28 then false else op.getLsbD (i - 28) := by
  unfold packWord
  simp only [BitVec.getLsbD_append]
  split
  · rfl
  · split
    · have h1 : i - 16 < 8 := by omega
      have h2 : i < 24 := by omega
      simp [h2]
    · have h2 : ¬ i < 24 := by omega
      simp only [h2, if_false]
      have e1 : i - 16 - 8 = i - 24 := by omega
      rw [e1]
      split
      · have h3 : i < 27 := by omega
        simp [h3]
      · have h3 : ¬ i < 27 := by omega
        simp only [h3, if_false]
        have e2 : i - 24 - 3 = i - 27 := by omega
        rw [e2]
        split
        · have h4 : i < 28 := by omega
          simp [h4]
        · have h4 : ¬ i < 28 := by omega
          have e3 : i - 27 - 1 = i - 28 := by omega
          simp [h4, e3]

theorem opField_pack (op : BitVec 4) (s : SectorWord) (data : Half) : opField (packWord op s data) = op := by
  apply BitVec.eq_of_getLsbD_eq
  intro i hi
  rw [opField, BitVec.getLsbD_extractLsb', packWord_getLsbD, if_neg (by omega), if_neg (by omega), if_neg (by omega),
    if_neg (by omega), Nat.add_sub_cancel_left, decide_eq_true hi, Bool.true_and]

theorem rsv0Field_pack (op : BitVec 4) (s : SectorWord) (data : Half) : rsv0Field (packWord op s data) = 0 := by
  apply BitVec.eq_of_getLsbD_eq
  intro i hi
  rw [rsv0Field, BitVec.getLsbD_extractLsb', packWord_getLsbD, if_neg (by omega), if_neg (by omega), if_neg (by omega),
    if_pos (by omega)]
  simp

theorem sectorField_pack (op : BitVec 4) (s : SectorWord) (data : Half) : sectorField (packWord op s data) = s := by
  apply BitVec.eq_of_getLsbD_eq
  intro i hi
  rw [sectorField, BitVec.getLsbD_extractLsb', packWord_getLsbD, if_neg (by omega), if_neg (by omega),
    if_pos (by omega), Nat.add_sub_cancel_left, decide_eq_true hi, Bool.true_and]

theorem rsv1Field_pack (op : BitVec 4) (s : SectorWord) (data : Half) : rsv1Field (packWord op s data) = 0 := by
  apply BitVec.eq_of_getLsbD_eq
  intro i hi
  rw [rsv1Field, BitVec.getLsbD_extractLsb', packWord_getLsbD, if_neg (by omega), if_pos (by omega)]
  simp

theorem dataField_pack (op : BitVec 4) (s : SectorWord) (data : Half) : dataField (packWord op s data) = data := by
  apply BitVec.eq_of_getLsbD_eq
  intro i hi
  rw [dataField, BitVec.getLsbD_extractLsb', packWord_getLsbD, if_pos (by omega), Nat.zero_add, decide_eq_true hi,
    Bool.true_and]

/-- A word whose reserved fields are 0 is the pack of its other fields. -/
theorem pack_fields {w : Word} (h0 : rsv0Field w = 0) (h1 : rsv1Field w = 0) :
    packWord (opField w) (sectorField w) (dataField w) = w := by
  apply BitVec.eq_of_getLsbD_eq
  intro i hi
  rw [packWord_getLsbD]
  split
  · rename_i h; simp [dataField, h]
  · split
    · rename_i h h'
      have := congrArg (fun v => v.getLsbD (i - 16)) h1
      have e : 16 + (i - 16) = i := by omega
      have l : i - 16 < 8 := by omega
      simpa [rsv1Field, e, l] using this.symm
    · split
      · rename_i h h' h''
        have e : 24 + (i - 24) = i := by omega
        have l : i - 24 < 3 := by omega
        simp [sectorField, e, l]
      · split
        · have hi : i = 27 := by omega
          subst hi
          have := congrArg (fun v => v.getLsbD 0) h0
          simpa [rsv0Field] using this.symm
        · have e : 28 + (i - 28) = i := by omega
          have l : i - 28 < 4 := by omega
          simp [opField, e, l]

/-- Every way a word can decode to an instruction (30_encoding.md R76). -/
theorem decode_cases {w : Word} {i : Instr} (h : decode w = some i) :
    rsv0Field w = 0 ∧ rsv1Field w = 0 ∧
    ((opField w = 0 ∧ sectorField w = 0 ∧ dataField w = 0 ∧ i = .nop) ∨
     (opField w = 1 ∧ sectorField w = 0 ∧ dataField w = 0 ∧ i = .advance) ∨
     (opField w = 2 ∧ sectorField w = 0 ∧ dataField w = 0 ∧ i = .retreat) ∨
     (opField w = 3 ∧ sectorField w ≠ 6 ∧ i = .apply (sectorField w) (dataField w)) ∨
     (opField w = 4 ∧ sectorField w = 0 ∧ dataField w = 0 ∧ i = .stop) ∨
     (opField w = 5 ∧ sectorField w = 0 ∧ i = .decode (dataField w))) := by
  unfold decode at h
  simp only at h
  split at h
  · simp at h
  rename_i hrsv
  push Not at hrsv
  refine ⟨hrsv.1, hrsv.2, ?_⟩
  (repeat' split at h) <;> simp_all

/-- A word that decodes is a well-formed instruction's. -/
theorem decode_wellFormed {w : Word} {i : Instr} (h : decode w = some i) : i.wellFormed = true := by
  obtain ⟨-, -, ⟨-, -, -, rfl⟩ | ⟨-, -, -, rfl⟩ | ⟨-, -, -, rfl⟩ | ⟨-, h6, rfl⟩ | ⟨-, -, -, rfl⟩ | ⟨-, -, rfl⟩⟩ :=
    decode_cases h <;> simp_all [Instr.wellFormed]

end Sys2Proof
end

