-- ==== Sys2Proof/Laws/State.lean ====
section
/-! SUPPORT. One lemma per field per update, each true by `rfl`, so that no proof unfolds a record update. -/

namespace Sys2Proof.Machine

variable (s : State)

/-! ### setResp -/

@[simp] theorem State.setResp_sector (r : Resp) : (s.setResp r).sector = s.sector := rfl
@[simp] theorem State.setResp_run (r : Resp) : (s.setResp r).run = s.run := rfl
@[simp] theorem State.setResp_duty (r : Resp) : (s.setResp r).duty = s.duty := rfl
@[simp] theorem State.setResp_shadowCfg (r : Resp) : (s.setResp r).shadowCfg = s.shadowCfg := rfl
@[simp] theorem State.setResp_commitPending (r : Resp) : (s.setResp r).commitPending = s.commitPending := rfl
@[simp] theorem State.setResp_activeCfg (r : Resp) : (s.setResp r).activeCfg = s.activeCfg := rfl
@[simp] theorem State.setResp_ccrActive (r : Resp) : (s.setResp r).ccrActive = s.ccrActive := rfl
@[simp] theorem State.setResp_cnt (r : Resp) : (s.setResp r).cnt = s.cnt := rfl
@[simp] theorem State.setResp_dtReq (r : Resp) : (s.setResp r).dtReq = s.dtReq := rfl
@[simp] theorem State.setResp_dtSince (r : Resp) : (s.setResp r).dtSince = s.dtSince := rfl
@[simp] theorem State.setResp_err (r : Resp) : (s.setResp r).err = s.err := rfl
@[simp] theorem State.setResp_resp (r : Resp) : (s.setResp r).resp = r := rfl
@[simp] theorem State.setResp_inputs (r : Resp) : (s.setResp r).inputs = s.inputs := rfl
@[simp] theorem State.setResp_params (r : Resp) : (s.setResp r).params = s.params := rfl

/-! ### setSector -/

@[simp] theorem State.setSector_sector (v : SectorWord) : (s.setSector v).sector = v := rfl
@[simp] theorem State.setSector_run (v : SectorWord) : (s.setSector v).run = s.run := rfl
@[simp] theorem State.setSector_duty (v : SectorWord) : (s.setSector v).duty = s.duty := rfl
@[simp] theorem State.setSector_shadowCfg (v : SectorWord) : (s.setSector v).shadowCfg = s.shadowCfg := rfl
@[simp] theorem State.setSector_commitPending (v : SectorWord) : (s.setSector v).commitPending = s.commitPending := rfl
@[simp] theorem State.setSector_activeCfg (v : SectorWord) : (s.setSector v).activeCfg = s.activeCfg := rfl
@[simp] theorem State.setSector_ccrActive (v : SectorWord) : (s.setSector v).ccrActive = s.ccrActive := rfl
@[simp] theorem State.setSector_cnt (v : SectorWord) : (s.setSector v).cnt = s.cnt := rfl
@[simp] theorem State.setSector_dtReq (v : SectorWord) : (s.setSector v).dtReq = s.dtReq := rfl
@[simp] theorem State.setSector_dtSince (v : SectorWord) : (s.setSector v).dtSince = s.dtSince := rfl
@[simp] theorem State.setSector_err (v : SectorWord) : (s.setSector v).err = s.err := rfl
@[simp] theorem State.setSector_resp (v : SectorWord) : (s.setSector v).resp = s.resp := rfl
@[simp] theorem State.setSector_inputs (v : SectorWord) : (s.setSector v).inputs = s.inputs := rfl
@[simp] theorem State.setSector_params (v : SectorWord) : (s.setSector v).params = s.params := rfl

/-! ### setDuty -/

@[simp] theorem State.setDuty_sector (d : Half) : (s.setDuty d).sector = s.sector := rfl
@[simp] theorem State.setDuty_run (d : Half) : (s.setDuty d).run = s.run := rfl
@[simp] theorem State.setDuty_duty (d : Half) : (s.setDuty d).duty = d := rfl
@[simp] theorem State.setDuty_shadowCfg (d : Half) : (s.setDuty d).shadowCfg = s.shadowCfg := rfl
@[simp] theorem State.setDuty_commitPending (d : Half) : (s.setDuty d).commitPending = s.commitPending := rfl
@[simp] theorem State.setDuty_activeCfg (d : Half) : (s.setDuty d).activeCfg = s.activeCfg := rfl
@[simp] theorem State.setDuty_ccrActive (d : Half) : (s.setDuty d).ccrActive = s.ccrActive := rfl
@[simp] theorem State.setDuty_cnt (d : Half) : (s.setDuty d).cnt = s.cnt := rfl
@[simp] theorem State.setDuty_dtReq (d : Half) : (s.setDuty d).dtReq = s.dtReq := rfl
@[simp] theorem State.setDuty_dtSince (d : Half) : (s.setDuty d).dtSince = s.dtSince := rfl
@[simp] theorem State.setDuty_err (d : Half) : (s.setDuty d).err = s.err := rfl
@[simp] theorem State.setDuty_resp (d : Half) : (s.setDuty d).resp = s.resp := rfl
@[simp] theorem State.setDuty_inputs (d : Half) : (s.setDuty d).inputs = s.inputs := rfl
@[simp] theorem State.setDuty_params (d : Half) : (s.setDuty d).params = s.params := rfl

/-! ### setErr -/

@[simp] theorem State.setErr_sector : s.setErr.sector = s.sector := rfl
@[simp] theorem State.setErr_run : s.setErr.run = s.run := rfl
@[simp] theorem State.setErr_duty : s.setErr.duty = s.duty := rfl
@[simp] theorem State.setErr_shadowCfg : s.setErr.shadowCfg = s.shadowCfg := rfl
@[simp] theorem State.setErr_commitPending : s.setErr.commitPending = s.commitPending := rfl
@[simp] theorem State.setErr_activeCfg : s.setErr.activeCfg = s.activeCfg := rfl
@[simp] theorem State.setErr_ccrActive : s.setErr.ccrActive = s.ccrActive := rfl
@[simp] theorem State.setErr_cnt : s.setErr.cnt = s.cnt := rfl
@[simp] theorem State.setErr_dtReq : s.setErr.dtReq = s.dtReq := rfl
@[simp] theorem State.setErr_dtSince : s.setErr.dtSince = s.dtSince := rfl
@[simp] theorem State.setErr_err : s.setErr.err = true := rfl
@[simp] theorem State.setErr_resp : s.setErr.resp = s.resp := rfl
@[simp] theorem State.setErr_inputs : s.setErr.inputs = s.inputs := rfl
@[simp] theorem State.setErr_params : s.setErr.params = s.params := rfl

/-! ### setCnt -/

@[simp] theorem State.setCnt_sector (c : Half) : (s.setCnt c).sector = s.sector := rfl
@[simp] theorem State.setCnt_run (c : Half) : (s.setCnt c).run = s.run := rfl
@[simp] theorem State.setCnt_duty (c : Half) : (s.setCnt c).duty = s.duty := rfl
@[simp] theorem State.setCnt_shadowCfg (c : Half) : (s.setCnt c).shadowCfg = s.shadowCfg := rfl
@[simp] theorem State.setCnt_commitPending (c : Half) : (s.setCnt c).commitPending = s.commitPending := rfl
@[simp] theorem State.setCnt_activeCfg (c : Half) : (s.setCnt c).activeCfg = s.activeCfg := rfl
@[simp] theorem State.setCnt_ccrActive (c : Half) : (s.setCnt c).ccrActive = s.ccrActive := rfl
@[simp] theorem State.setCnt_cnt (c : Half) : (s.setCnt c).cnt = c := rfl
@[simp] theorem State.setCnt_dtReq (c : Half) : (s.setCnt c).dtReq = s.dtReq := rfl
@[simp] theorem State.setCnt_dtSince (c : Half) : (s.setCnt c).dtSince = s.dtSince := rfl
@[simp] theorem State.setCnt_err (c : Half) : (s.setCnt c).err = s.err := rfl
@[simp] theorem State.setCnt_resp (c : Half) : (s.setCnt c).resp = s.resp := rfl
@[simp] theorem State.setCnt_inputs (c : Half) : (s.setCnt c).inputs = s.inputs := rfl
@[simp] theorem State.setCnt_params (c : Half) : (s.setCnt c).params = s.params := rfl

/-! ### writeShadow -/

@[simp] theorem State.writeShadow_sector (c : PhaseTriple ChanWord) (r : RunState) : (s.writeShadow c r).sector = s.sector := rfl
@[simp] theorem State.writeShadow_run (c : PhaseTriple ChanWord) (r : RunState) : (s.writeShadow c r).run = r := rfl
@[simp] theorem State.writeShadow_duty (c : PhaseTriple ChanWord) (r : RunState) : (s.writeShadow c r).duty = s.duty := rfl
@[simp] theorem State.writeShadow_shadowCfg (c : PhaseTriple ChanWord) (r : RunState) : (s.writeShadow c r).shadowCfg = c := rfl
@[simp] theorem State.writeShadow_commitPending (c : PhaseTriple ChanWord) (r : RunState) : (s.writeShadow c r).commitPending = true := rfl
@[simp] theorem State.writeShadow_activeCfg (c : PhaseTriple ChanWord) (r : RunState) : (s.writeShadow c r).activeCfg = s.activeCfg := rfl
@[simp] theorem State.writeShadow_ccrActive (c : PhaseTriple ChanWord) (r : RunState) : (s.writeShadow c r).ccrActive = s.ccrActive := rfl
@[simp] theorem State.writeShadow_cnt (c : PhaseTriple ChanWord) (r : RunState) : (s.writeShadow c r).cnt = s.cnt := rfl
@[simp] theorem State.writeShadow_dtReq (c : PhaseTriple ChanWord) (r : RunState) : (s.writeShadow c r).dtReq = s.dtReq := rfl
@[simp] theorem State.writeShadow_dtSince (c : PhaseTriple ChanWord) (r : RunState) : (s.writeShadow c r).dtSince = s.dtSince := rfl
@[simp] theorem State.writeShadow_err (c : PhaseTriple ChanWord) (r : RunState) : (s.writeShadow c r).err = s.err := rfl
@[simp] theorem State.writeShadow_resp (c : PhaseTriple ChanWord) (r : RunState) : (s.writeShadow c r).resp = s.resp := rfl
@[simp] theorem State.writeShadow_inputs (c : PhaseTriple ChanWord) (r : RunState) : (s.writeShadow c r).inputs = s.inputs := rfl
@[simp] theorem State.writeShadow_params (c : PhaseTriple ChanWord) (r : RunState) : (s.writeShadow c r).params = s.params := rfl

/-! ### setChannels -/

@[simp] theorem State.setChannels_sector (q : PhaseTriple Request) (n : PhaseTriple SinceWord) : (s.setChannels q n).sector = s.sector := rfl
@[simp] theorem State.setChannels_run (q : PhaseTriple Request) (n : PhaseTriple SinceWord) : (s.setChannels q n).run = s.run := rfl
@[simp] theorem State.setChannels_duty (q : PhaseTriple Request) (n : PhaseTriple SinceWord) : (s.setChannels q n).duty = s.duty := rfl
@[simp] theorem State.setChannels_shadowCfg (q : PhaseTriple Request) (n : PhaseTriple SinceWord) : (s.setChannels q n).shadowCfg = s.shadowCfg := rfl
@[simp] theorem State.setChannels_commitPending (q : PhaseTriple Request) (n : PhaseTriple SinceWord) : (s.setChannels q n).commitPending = s.commitPending := rfl
@[simp] theorem State.setChannels_activeCfg (q : PhaseTriple Request) (n : PhaseTriple SinceWord) : (s.setChannels q n).activeCfg = s.activeCfg := rfl
@[simp] theorem State.setChannels_ccrActive (q : PhaseTriple Request) (n : PhaseTriple SinceWord) : (s.setChannels q n).ccrActive = s.ccrActive := rfl
@[simp] theorem State.setChannels_cnt (q : PhaseTriple Request) (n : PhaseTriple SinceWord) : (s.setChannels q n).cnt = s.cnt := rfl
@[simp] theorem State.setChannels_dtReq (q : PhaseTriple Request) (n : PhaseTriple SinceWord) : (s.setChannels q n).dtReq = q := rfl
@[simp] theorem State.setChannels_dtSince (q : PhaseTriple Request) (n : PhaseTriple SinceWord) : (s.setChannels q n).dtSince = n := rfl
@[simp] theorem State.setChannels_err (q : PhaseTriple Request) (n : PhaseTriple SinceWord) : (s.setChannels q n).err = s.err := rfl
@[simp] theorem State.setChannels_resp (q : PhaseTriple Request) (n : PhaseTriple SinceWord) : (s.setChannels q n).resp = s.resp := rfl
@[simp] theorem State.setChannels_inputs (q : PhaseTriple Request) (n : PhaseTriple SinceWord) : (s.setChannels q n).inputs = s.inputs := rfl
@[simp] theorem State.setChannels_params (q : PhaseTriple Request) (n : PhaseTriple SinceWord) : (s.setChannels q n).params = s.params := rfl

/-! ### dropInput -/

@[simp] theorem State.dropInput_sector : s.dropInput.sector = s.sector := rfl
@[simp] theorem State.dropInput_run : s.dropInput.run = s.run := rfl
@[simp] theorem State.dropInput_duty : s.dropInput.duty = s.duty := rfl
@[simp] theorem State.dropInput_shadowCfg : s.dropInput.shadowCfg = s.shadowCfg := rfl
@[simp] theorem State.dropInput_commitPending : s.dropInput.commitPending = s.commitPending := rfl
@[simp] theorem State.dropInput_activeCfg : s.dropInput.activeCfg = s.activeCfg := rfl
@[simp] theorem State.dropInput_ccrActive : s.dropInput.ccrActive = s.ccrActive := rfl
@[simp] theorem State.dropInput_cnt : s.dropInput.cnt = s.cnt := rfl
@[simp] theorem State.dropInput_dtReq : s.dropInput.dtReq = s.dtReq := rfl
@[simp] theorem State.dropInput_dtSince : s.dropInput.dtSince = s.dtSince := rfl
@[simp] theorem State.dropInput_err : s.dropInput.err = s.err := rfl
@[simp] theorem State.dropInput_resp : s.dropInput.resp = s.resp := rfl
@[simp] theorem State.dropInput_inputs : s.dropInput.inputs = s.inputs.tail := rfl
@[simp] theorem State.dropInput_params : s.dropInput.params = s.params := rfl

/-! ### drive -/

@[simp] theorem State.drive_sector (inp : PortInput) : (s.drive inp).sector = s.sector := rfl
@[simp] theorem State.drive_run (inp : PortInput) : (s.drive inp).run = s.run := rfl
@[simp] theorem State.drive_duty (inp : PortInput) : (s.drive inp).duty = s.duty := rfl
@[simp] theorem State.drive_shadowCfg (inp : PortInput) : (s.drive inp).shadowCfg = s.shadowCfg := rfl
@[simp] theorem State.drive_commitPending (inp : PortInput) : (s.drive inp).commitPending = s.commitPending := rfl
@[simp] theorem State.drive_activeCfg (inp : PortInput) : (s.drive inp).activeCfg = s.activeCfg := rfl
@[simp] theorem State.drive_ccrActive (inp : PortInput) : (s.drive inp).ccrActive = s.ccrActive := rfl
@[simp] theorem State.drive_cnt (inp : PortInput) : (s.drive inp).cnt = s.cnt := rfl
@[simp] theorem State.drive_dtReq (inp : PortInput) : (s.drive inp).dtReq = s.dtReq := rfl
@[simp] theorem State.drive_dtSince (inp : PortInput) : (s.drive inp).dtSince = s.dtSince := rfl
@[simp] theorem State.drive_err (inp : PortInput) : (s.drive inp).err = s.err := rfl
@[simp] theorem State.drive_resp (inp : PortInput) : (s.drive inp).resp = s.resp := rfl
@[simp] theorem State.drive_inputs (inp : PortInput) : (s.drive inp).inputs = inp :: s.inputs.tail := rfl
@[simp] theorem State.drive_params (inp : PortInput) : (s.drive inp).params = s.params := rfl

/-! ### resetClock -/

@[simp] theorem State.resetClock_sector : s.resetClock.sector = (State.resetWith s.params).sector := rfl
@[simp] theorem State.resetClock_run : s.resetClock.run = (State.resetWith s.params).run := rfl
@[simp] theorem State.resetClock_duty : s.resetClock.duty = (State.resetWith s.params).duty := rfl
@[simp] theorem State.resetClock_shadowCfg : s.resetClock.shadowCfg = (State.resetWith s.params).shadowCfg := rfl
@[simp] theorem State.resetClock_commitPending : s.resetClock.commitPending = (State.resetWith s.params).commitPending := rfl
@[simp] theorem State.resetClock_activeCfg : s.resetClock.activeCfg = (State.resetWith s.params).activeCfg := rfl
@[simp] theorem State.resetClock_ccrActive : s.resetClock.ccrActive = (State.resetWith s.params).ccrActive := rfl
@[simp] theorem State.resetClock_cnt : s.resetClock.cnt = (State.resetWith s.params).cnt := rfl
@[simp] theorem State.resetClock_dtReq : s.resetClock.dtReq = (State.resetWith s.params).dtReq := rfl
@[simp] theorem State.resetClock_dtSince : s.resetClock.dtSince = (State.resetWith s.params).dtSince := rfl
@[simp] theorem State.resetClock_err : s.resetClock.err = (State.resetWith s.params).err := rfl
@[simp] theorem State.resetClock_resp : s.resetClock.resp = (State.resetWith s.params).resp := rfl
@[simp] theorem State.resetClock_inputs : s.resetClock.inputs = s.inputs := rfl
@[simp] theorem State.resetClock_params : s.resetClock.params = s.params := rfl

/-! ### stopMotor -/

@[simp] theorem State.stopMotor_sector : s.stopMotor.sector = s.sector := rfl
@[simp] theorem State.stopMotor_run : s.stopMotor.run = .stopped := rfl
@[simp] theorem State.stopMotor_duty : s.stopMotor.duty = s.duty := rfl
@[simp] theorem State.stopMotor_shadowCfg : s.stopMotor.shadowCfg = .all (cfgWord .float) := rfl
@[simp] theorem State.stopMotor_commitPending : s.stopMotor.commitPending = true := rfl
@[simp] theorem State.stopMotor_activeCfg : s.stopMotor.activeCfg = s.activeCfg := rfl
@[simp] theorem State.stopMotor_ccrActive : s.stopMotor.ccrActive = s.ccrActive := rfl
@[simp] theorem State.stopMotor_cnt : s.stopMotor.cnt = s.cnt := rfl
@[simp] theorem State.stopMotor_dtReq : s.stopMotor.dtReq = s.dtReq := rfl
@[simp] theorem State.stopMotor_dtSince : s.stopMotor.dtSince = s.dtSince := rfl
@[simp] theorem State.stopMotor_err : s.stopMotor.err = s.err := rfl
@[simp] theorem State.stopMotor_resp : s.stopMotor.resp = .ok := rfl
@[simp] theorem State.stopMotor_inputs : s.stopMotor.inputs = s.inputs := rfl
@[simp] theorem State.stopMotor_params : s.stopMotor.params = s.params := rfl

/-! ### driveRow -/

@[simp] theorem State.driveRow_sector (row : PhaseTriple DriveIntent) (d : Half) : (s.driveRow row d).sector = s.sector := rfl
@[simp] theorem State.driveRow_run (row : PhaseTriple DriveIntent) (d : Half) : (s.driveRow row d).run = .running := rfl
@[simp] theorem State.driveRow_duty (row : PhaseTriple DriveIntent) (d : Half) : (s.driveRow row d).duty = d := rfl
@[simp] theorem State.driveRow_shadowCfg (row : PhaseTriple DriveIntent) (d : Half) : (s.driveRow row d).shadowCfg = rowWords row := rfl
@[simp] theorem State.driveRow_commitPending (row : PhaseTriple DriveIntent) (d : Half) : (s.driveRow row d).commitPending = true := rfl
@[simp] theorem State.driveRow_activeCfg (row : PhaseTriple DriveIntent) (d : Half) : (s.driveRow row d).activeCfg = s.activeCfg := rfl
@[simp] theorem State.driveRow_ccrActive (row : PhaseTriple DriveIntent) (d : Half) : (s.driveRow row d).ccrActive = s.ccrActive := rfl
@[simp] theorem State.driveRow_cnt (row : PhaseTriple DriveIntent) (d : Half) : (s.driveRow row d).cnt = s.cnt := rfl
@[simp] theorem State.driveRow_dtReq (row : PhaseTriple DriveIntent) (d : Half) : (s.driveRow row d).dtReq = s.dtReq := rfl
@[simp] theorem State.driveRow_dtSince (row : PhaseTriple DriveIntent) (d : Half) : (s.driveRow row d).dtSince = s.dtSince := rfl
@[simp] theorem State.driveRow_err (row : PhaseTriple DriveIntent) (d : Half) : (s.driveRow row d).err = s.err := rfl
@[simp] theorem State.driveRow_resp (row : PhaseTriple DriveIntent) (d : Half) : (s.driveRow row d).resp = .ok := rfl
@[simp] theorem State.driveRow_inputs (row : PhaseTriple DriveIntent) (d : Half) : (s.driveRow row d).inputs = s.inputs := rfl
@[simp] theorem State.driveRow_params (row : PhaseTriple DriveIntent) (d : Half) : (s.driveRow row d).params = s.params := rfl

/-! ### advanceSector -/

@[simp] theorem State.advanceSector_sector : s.advanceSector.sector = nextSector s.sector := rfl
@[simp] theorem State.advanceSector_run : s.advanceSector.run = s.run := rfl
@[simp] theorem State.advanceSector_duty : s.advanceSector.duty = s.duty := rfl
@[simp] theorem State.advanceSector_shadowCfg : s.advanceSector.shadowCfg = s.shadowCfg := rfl
@[simp] theorem State.advanceSector_commitPending : s.advanceSector.commitPending = s.commitPending := rfl
@[simp] theorem State.advanceSector_activeCfg : s.advanceSector.activeCfg = s.activeCfg := rfl
@[simp] theorem State.advanceSector_ccrActive : s.advanceSector.ccrActive = s.ccrActive := rfl
@[simp] theorem State.advanceSector_cnt : s.advanceSector.cnt = s.cnt := rfl
@[simp] theorem State.advanceSector_dtReq : s.advanceSector.dtReq = s.dtReq := rfl
@[simp] theorem State.advanceSector_dtSince : s.advanceSector.dtSince = s.dtSince := rfl
@[simp] theorem State.advanceSector_err : s.advanceSector.err = s.err := rfl
@[simp] theorem State.advanceSector_resp : s.advanceSector.resp = s.resp := rfl
@[simp] theorem State.advanceSector_inputs : s.advanceSector.inputs = s.inputs := rfl
@[simp] theorem State.advanceSector_params : s.advanceSector.params = s.params := rfl

/-! ### retreatSector -/

@[simp] theorem State.retreatSector_sector : s.retreatSector.sector = prevSector s.sector := rfl
@[simp] theorem State.retreatSector_run : s.retreatSector.run = s.run := rfl
@[simp] theorem State.retreatSector_duty : s.retreatSector.duty = s.duty := rfl
@[simp] theorem State.retreatSector_shadowCfg : s.retreatSector.shadowCfg = s.shadowCfg := rfl
@[simp] theorem State.retreatSector_commitPending : s.retreatSector.commitPending = s.commitPending := rfl
@[simp] theorem State.retreatSector_activeCfg : s.retreatSector.activeCfg = s.activeCfg := rfl
@[simp] theorem State.retreatSector_ccrActive : s.retreatSector.ccrActive = s.ccrActive := rfl
@[simp] theorem State.retreatSector_cnt : s.retreatSector.cnt = s.cnt := rfl
@[simp] theorem State.retreatSector_dtReq : s.retreatSector.dtReq = s.dtReq := rfl
@[simp] theorem State.retreatSector_dtSince : s.retreatSector.dtSince = s.dtSince := rfl
@[simp] theorem State.retreatSector_err : s.retreatSector.err = s.err := rfl
@[simp] theorem State.retreatSector_resp : s.retreatSector.resp = s.resp := rfl
@[simp] theorem State.retreatSector_inputs : s.retreatSector.inputs = s.inputs := rfl
@[simp] theorem State.retreatSector_params : s.retreatSector.params = s.params := rfl

/-! ### raiseIllegal -/

@[simp] theorem State.raiseIllegal_sector : s.raiseIllegal.sector = s.sector := rfl
@[simp] theorem State.raiseIllegal_run : s.raiseIllegal.run = s.run := rfl
@[simp] theorem State.raiseIllegal_duty : s.raiseIllegal.duty = s.duty := rfl
@[simp] theorem State.raiseIllegal_shadowCfg : s.raiseIllegal.shadowCfg = s.shadowCfg := rfl
@[simp] theorem State.raiseIllegal_commitPending : s.raiseIllegal.commitPending = s.commitPending := rfl
@[simp] theorem State.raiseIllegal_activeCfg : s.raiseIllegal.activeCfg = s.activeCfg := rfl
@[simp] theorem State.raiseIllegal_ccrActive : s.raiseIllegal.ccrActive = s.ccrActive := rfl
@[simp] theorem State.raiseIllegal_cnt : s.raiseIllegal.cnt = s.cnt := rfl
@[simp] theorem State.raiseIllegal_dtReq : s.raiseIllegal.dtReq = s.dtReq := rfl
@[simp] theorem State.raiseIllegal_dtSince : s.raiseIllegal.dtSince = s.dtSince := rfl
@[simp] theorem State.raiseIllegal_err : s.raiseIllegal.err = true := rfl
@[simp] theorem State.raiseIllegal_resp : s.raiseIllegal.resp = .illegal := rfl
@[simp] theorem State.raiseIllegal_inputs : s.raiseIllegal.inputs = s.inputs := rfl
@[simp] theorem State.raiseIllegal_params : s.raiseIllegal.params = s.params := rfl

/-! ### stepChannels -/

@[simp] theorem State.stepChannels_sector : s.stepChannels.sector = s.sector := rfl
@[simp] theorem State.stepChannels_run : s.stepChannels.run = s.run := rfl
@[simp] theorem State.stepChannels_duty : s.stepChannels.duty = s.duty := rfl
@[simp] theorem State.stepChannels_shadowCfg : s.stepChannels.shadowCfg = s.shadowCfg := rfl
@[simp] theorem State.stepChannels_commitPending : s.stepChannels.commitPending = s.commitPending := rfl
@[simp] theorem State.stepChannels_activeCfg : s.stepChannels.activeCfg = s.activeCfg := rfl
@[simp] theorem State.stepChannels_ccrActive : s.stepChannels.ccrActive = s.ccrActive := rfl
@[simp] theorem State.stepChannels_cnt : s.stepChannels.cnt = s.cnt := rfl
@[simp] theorem State.stepChannels_dtReq : s.stepChannels.dtReq = s.requests := rfl
@[simp] theorem State.stepChannels_dtSince : s.stepChannels.dtSince = s.sinces s.requests := rfl
@[simp] theorem State.stepChannels_err : s.stepChannels.err = s.err := rfl
@[simp] theorem State.stepChannels_resp : s.stepChannels.resp = s.resp := rfl
@[simp] theorem State.stepChannels_inputs : s.stepChannels.inputs = s.inputs := rfl
@[simp] theorem State.stepChannels_params : s.stepChannels.params = s.params := rfl

/-! ### resetWith -/

@[simp] theorem State.resetWith_sector (p : Params) : (State.resetWith p).sector = 0 := rfl
@[simp] theorem State.resetWith_run (p : Params) : (State.resetWith p).run = .stopped := rfl
@[simp] theorem State.resetWith_duty (p : Params) : (State.resetWith p).duty = 0 := rfl
@[simp] theorem State.resetWith_shadowCfg (p : Params) : (State.resetWith p).shadowCfg = .all 0x1C := rfl
@[simp] theorem State.resetWith_commitPending (p : Params) : (State.resetWith p).commitPending = false := rfl
@[simp] theorem State.resetWith_activeCfg (p : Params) : (State.resetWith p).activeCfg = .all 0x1C := rfl
@[simp] theorem State.resetWith_ccrActive (p : Params) : (State.resetWith p).ccrActive = 0 := rfl
@[simp] theorem State.resetWith_cnt (p : Params) : (State.resetWith p).cnt = 0 := rfl
@[simp] theorem State.resetWith_dtReq (p : Params) : (State.resetWith p).dtReq = .all ⟨false, false⟩ := rfl
@[simp] theorem State.resetWith_dtSince (p : Params) : (State.resetWith p).dtSince = .all (BitVec.ofNat 8 p.dt) := rfl
@[simp] theorem State.resetWith_err (p : Params) : (State.resetWith p).err = false := rfl
@[simp] theorem State.resetWith_resp (p : Params) : (State.resetWith p).resp = .ok := rfl
@[simp] theorem State.resetWith_inputs (p : Params) : (State.resetWith p).inputs = [] := rfl
@[simp] theorem State.resetWith_params (p : Params) : (State.resetWith p).params = p := rfl

/-! ### PhaseTriple -/

@[simp] theorem PhaseTriple.get_all {α : Type} (x : α) (p : Phase) : (PhaseTriple.all x).get p = x := by
  cases p <;> rfl
@[simp] theorem PhaseTriple.get_map {α β : Type} (f : α → β) (t : PhaseTriple α) (p : Phase) :
    (t.map f).get p = f (t.get p) := by
  cases p <;> rfl

/-- Two triples with the same value at every phase are equal. -/
theorem PhaseTriple.ext_get {α : Type} {t t' : PhaseTriple α} (h : ∀ p, t.get p = t'.get p) : t = t' := by
  have hu := h .u; have hv := h .v; have hw := h .w
  cases t; cases t'; simp_all [PhaseTriple.get]

/-! ### commit -/

@[simp] theorem State.commit_sector : s.commit.sector = s.sector := by
  unfold State.commit; split <;> rfl
@[simp] theorem State.commit_run : s.commit.run = s.run := by
  unfold State.commit; split <;> rfl
@[simp] theorem State.commit_duty : s.commit.duty = s.duty := by
  unfold State.commit; split <;> rfl
@[simp] theorem State.commit_shadowCfg : s.commit.shadowCfg = s.shadowCfg := by
  unfold State.commit; split <;> rfl
@[simp] theorem State.commit_cnt : s.commit.cnt = s.cnt := by
  unfold State.commit; split <;> rfl
@[simp] theorem State.commit_dtReq : s.commit.dtReq = s.dtReq := by
  unfold State.commit; split <;> rfl
@[simp] theorem State.commit_dtSince : s.commit.dtSince = s.dtSince := by
  unfold State.commit; split <;> rfl
@[simp] theorem State.commit_err : s.commit.err = s.err := by
  unfold State.commit; split <;> rfl
@[simp] theorem State.commit_resp : s.commit.resp = s.resp := by
  unfold State.commit; split <;> rfl
@[simp] theorem State.commit_inputs : s.commit.inputs = s.inputs := by
  unfold State.commit; split <;> rfl
@[simp] theorem State.commit_params : s.commit.params = s.params := by
  unfold State.commit; split <;> rfl

/-- The commit copies the shadow and the duty together and clears the request, or changes nothing (42_commutation.md
R162). -/
theorem State.commit_pending (h : s.commitPending = true) :
    s.commit = { s with activeCfg := s.shadowCfg, ccrActive := s.duty, commitPending := false } := by
  simp [State.commit, h]

theorem State.commit_idle (h : s.commitPending = false) : s.commit = s := by
  simp [State.commit, h]

@[simp] theorem State.commit_commitPending : s.commit.commitPending = false := by
  unfold State.commit; split <;> simp_all

/-! ### tick -/

@[simp] theorem State.timeBase_sector : s.timeBase.sector = s.sector := by
  unfold State.timeBase; split <;> simp
@[simp] theorem State.tick_sector : s.tick.sector = s.sector := by simp [State.tick]
@[simp] theorem State.timeBase_run : s.timeBase.run = s.run := by
  unfold State.timeBase; split <;> simp
@[simp] theorem State.tick_run : s.tick.run = s.run := by simp [State.tick]
@[simp] theorem State.timeBase_duty : s.timeBase.duty = s.duty := by
  unfold State.timeBase; split <;> simp
@[simp] theorem State.tick_duty : s.tick.duty = s.duty := by simp [State.tick]
@[simp] theorem State.timeBase_shadowCfg : s.timeBase.shadowCfg = s.shadowCfg := by
  unfold State.timeBase; split <;> simp
@[simp] theorem State.tick_shadowCfg : s.tick.shadowCfg = s.shadowCfg := by simp [State.tick]
@[simp] theorem State.timeBase_err : s.timeBase.err = s.err := by
  unfold State.timeBase; split <;> simp
@[simp] theorem State.tick_err : s.tick.err = s.err := by simp [State.tick]
@[simp] theorem State.timeBase_resp : s.timeBase.resp = s.resp := by
  unfold State.timeBase; split <;> simp
@[simp] theorem State.tick_resp : s.tick.resp = s.resp := by simp [State.tick]
@[simp] theorem State.timeBase_inputs : s.timeBase.inputs = s.inputs := by
  unfold State.timeBase; split <;> simp
@[simp] theorem State.tick_inputs : s.tick.inputs = s.inputs := by simp [State.tick]
@[simp] theorem State.timeBase_params : s.timeBase.params = s.params := by
  unfold State.timeBase; split <;> simp
@[simp] theorem State.tick_params : s.tick.params = s.params := by simp [State.tick]
@[simp] theorem State.timeBase_dtReq : s.timeBase.dtReq = s.dtReq := by
  unfold State.timeBase; split <;> simp
@[simp] theorem State.timeBase_dtSince : s.timeBase.dtSince = s.dtSince := by
  unfold State.timeBase; split <;> simp
theorem State.tick_cnt : s.tick.cnt = s.timeBase.cnt := rfl
theorem State.tick_activeCfg : s.tick.activeCfg = s.timeBase.activeCfg := rfl
theorem State.tick_ccrActive : s.tick.ccrActive = s.timeBase.ccrActive := rfl
theorem State.tick_commitPending : s.tick.commitPending = s.timeBase.commitPending := rfl
theorem State.tick_dtReq : s.tick.dtReq = s.timeBase.requests := rfl
theorem State.tick_dtSince : s.tick.dtSince = s.sinces s.timeBase.requests := by
  simp [State.tick, State.sinces]

end Sys2Proof.Machine
end

