-- ==== Sys2Proof/Laws/Ops.lean ====
section
/-! SUPPORT. What each shared operation can do, said once: the sequencing of outcomes, the table, CFG, the sector steps, the
operands, the throttle decoder, the request pairs and the dead-time counter. -/

namespace Sys2Proof.Machine

/-! ### Outcomes -/

@[simp] theorem andThen_next (s : State) (f : State → Host.Outcome State Fault Refusal) :
    andThen (.next s) f = f s := rfl
@[simp] theorem andThen_fault (r : Fault) (f : State → Host.Outcome State Fault Refusal) :
    andThen (.fault r) f = .fault r := rfl
@[simp] theorem andThen_refused (r : Refusal) (f : State → Host.Outcome State Fault Refusal) :
    andThen (.refused r) f = .refused r := rfl

theorem andThen_eq_next {o : Host.Outcome State Fault Refusal} {f : State → Host.Outcome State Fault Refusal} {t : State} :
    andThen o f = .next t ↔ ∃ s, o = .next s ∧ f s = .next t := by
  cases o <;> simp [andThen]

/-! ### The table and CFG -/

theorem phaseTable_eq_none_iff (s : SectorWord) : phaseTable s = none ↔ 6 ≤ s.toNat := by
  revert s; decide

theorem phaseTable_of_lt {s : SectorWord} (h : s.toNat < 6) : ∃ row, phaseTable s = some row := by
  cases hrow : phaseTable s with
  | none => exact absurd ((phaseTable_eq_none_iff s).mp hrow) (by omega)
  | some row => exact ⟨row, rfl⟩

theorem lt_of_phaseTable {s : SectorWord} {row : PhaseTriple DriveIntent} (h : phaseTable s = some row) :
    s.toNat < 6 := by
  by_contra hlt
  have := (phaseTable_eq_none_iff s).mpr (by omega)
  simp [h] at this

@[simp] theorem cfgWord_isCfg (i : DriveIntent) : ChanWord.isCfg (cfgWord i) = true := by
  cases i <;> rfl

@[simp] theorem rowWords_get (row : PhaseTriple DriveIntent) (p : Phase) : (rowWords row).get p = cfgWord (row.get p) := by
  simp [rowWords]

theorem rowWords_eq (row : PhaseTriple DriveIntent) :
    rowWords row = ⟨cfgWord row.u, cfgWord row.v, cfgWord row.w⟩ := rfl

/-! ### The sector steps -/

@[simp] theorem nextSector_toNat (s : SectorWord) : (nextSector s).toNat = (s.toNat + 1) % 6 := by
  revert s; decide

@[simp] theorem prevSector_toNat (s : SectorWord) : (prevSector s).toNat = (s.toNat + 5) % 6 := by
  revert s; decide

theorem nextSector_lt (s : SectorWord) : (nextSector s).toNat < 6 := by
  rw [nextSector_toNat]; omega

/-! ### The operands -/

@[simp] theorem saturateDuty_toNat (period : Nat) (d : Half) :
    (saturateDuty period d).toNat = min d.toNat period := by
  have := d.isLt
  simp only [saturateDuty, BitVec.toNat_ofNat]
  omega

theorem applyRow_some {operand : SectorWord} {d : Half} {s : State} {row : PhaseTriple DriveIntent}
    (h : phaseTable (selectSector operand s.sector) = some row) :
    applyRow operand d s = .next (s.driveRow row (saturateDuty s.params.period d)) := by
  simp [applyRow, h]

/-- What an APPLY can do: drive the row of the selected sector, or the fault of a selection outside the table. -/
theorem applyRow_cases (operand : SectorWord) (d : Half) (s : State) :
    (∃ row, phaseTable (selectSector operand s.sector) = some row ∧
      applyRow operand d s = .next (s.driveRow row (saturateDuty s.params.period d))) ∨
    (6 ≤ (selectSector operand s.sector).toNat ∧ applyRow operand d s = .fault .phaseTableIndex) := by
  cases hrow : phaseTable (selectSector operand s.sector) with
  | some row => exact .inl ⟨row, rfl, applyRow_some hrow⟩
  | none => exact .inr ⟨(phaseTable_eq_none_iff _).mp hrow, by simp [applyRow, hrow]⟩

/-! ### The throttle decoder -/

theorem implausible_iff (p : Params) (w : Half) : implausible p w = true ↔ w.toNat < p.pMin ∨ p.pMax < w.toNat := by
  simp [implausible]

theorem throttle_reject {p : Params} {w : Half} (h : w.toNat < p.pMin ∨ p.pMax < w.toNat) : throttle p w = .reject := by
  simp [throttle, (implausible_iff p w).mpr h]

theorem throttle_stopped {p : Params} {w : Half} (h₁ : p.pMin ≤ w.toNat) (h₂ : w.toNat ≤ p.pMax) (h : w.toNat < p.wStop) :
    throttle p w = .stopped := by
  have : ¬implausible p w = true := by rw [implausible_iff]; omega
  simp [throttle, this, h]

theorem throttle_running {p : Params} {w : Half} (h₁ : p.pMin ≤ w.toNat) (h₂ : w.toNat ≤ p.pMax) (h : p.wStop ≤ w.toNat) :
    throttle p w = .running (BitVec.ofNat 16 ((clampWidth p w - p.wMin) * p.k)) := by
  have : ¬implausible p w = true := by rw [implausible_iff]; omega
  simp [throttle, this, Nat.not_lt.mpr h]

/-- The three results of `Dec(w)`, each with its window (43_throttle.md R185). -/
theorem throttle_cases (p : Params) (w : Half) :
    (throttle p w = .reject ∧ (w.toNat < p.pMin ∨ p.pMax < w.toNat)) ∨
    (throttle p w = .stopped ∧ p.pMin ≤ w.toNat ∧ w.toNat ≤ p.pMax ∧ w.toNat < p.wStop) ∨
    (throttle p w = .running (BitVec.ofNat 16 ((clampWidth p w - p.wMin) * p.k)) ∧
      p.pMin ≤ w.toNat ∧ w.toNat ≤ p.pMax ∧ p.wStop ≤ w.toNat) := by
  by_cases h : w.toNat < p.pMin ∨ p.pMax < w.toNat
  · exact .inl ⟨throttle_reject h, h⟩
  · push Not at h
    by_cases hs : w.toNat < p.wStop
    · exact .inr (.inl ⟨throttle_stopped h.1 h.2 hs, h.1, h.2, hs⟩)
    · exact .inr (.inr ⟨throttle_running h.1 h.2 (by omega), h.1, h.2, by omega⟩)

/-- The mapped duty never exceeds PERIOD (43_throttle.md R184, 42_commutation.md R164). -/
theorem mapped_duty_le {p : Params} (hp : p.Valid) (w : Half) : (clampWidth p w - p.wMin) * p.k ≤ p.period := by
  obtain ⟨-, -, -, -, -, h⟩ := hp
  refine le_trans (Nat.mul_le_mul_right p.k ?_) h
  simp only [clampWidth]
  omega

theorem mapped_duty_toNat {p : Params} (hp : p.Valid) (w : Half) :
    (BitVec.ofNat 16 ((clampWidth p w - p.wMin) * p.k)).toNat = (clampWidth p w - p.wMin) * p.k := by
  have h := mapped_duty_le hp w
  have := hp.1.2
  simp only [BitVec.toNat_ofNat]
  exact Nat.mod_eq_of_lt (by omega)

/-! ### Requests and dead time -/

@[simp] theorem channelRequest_float (cnt ccr : Half) : channelRequest (cfgWord .float) cnt ccr = ⟨false, false⟩ := rfl

@[simp] theorem channelRequest_low (cnt ccr : Half) : channelRequest (cfgWord .low) cnt ccr = ⟨false, true⟩ := rfl

@[simp] theorem channelRequest_high (cnt ccr : Half) :
    channelRequest (cfgWord .high) cnt ccr = ⟨decide (cnt.toNat < ccr.toNat), !decide (cnt.toNat < ccr.toNat)⟩ := by
  have h1 : ChanWord.mode 25#5 = true := rfl
  have h2 : ChanWord.pol 25#5 = false := rfl
  have h3 : ChanWord.poln 25#5 = false := rfl
  have h4 : ChanWord.en 25#5 = true := rfl
  have h5 : ChanWord.enn 25#5 = true := rfl
  simp [channelRequest, reference, requestOf, cfgWord, h1, h2, h3, h4, h5]

theorem isCfg_cases {c : ChanWord} (h : ChanWord.isCfg c = true) :
    c = cfgWord .high ∨ c = cfgWord .low ∨ c = cfgWord .float := by
  simpa [ChanWord.isCfg, or_assoc] using h

/-- No CFG word requests both switches (41_channel_driver.md R126, R132). -/
theorem channelRequest_noBoth {c : ChanWord} (h : ChanWord.isCfg c = true) (cnt ccr : Half) :
    ¬((channelRequest c cnt ccr).a = true ∧ (channelRequest c cnt ccr).b = true) := by
  rcases isCfg_cases h with rfl | rfl | rfl <;> simp

theorem deadTimeSince_toNat {dt : Nat} (hdt : dt ≤ 255) (req : Request) (since : SinceWord) (q : Request) :
    (deadTimeSince dt req since q).toNat = if q = req then min (since.toNat + 1) dt else 0 := by
  unfold deadTimeSince
  split
  · simp only [BitVec.toNat_ofNat]
    exact Nat.mod_eq_of_lt (by omega)
  · rfl

theorem State.requests_get (s : State) (p : Phase) :
    s.requests.get p = channelRequest (s.activeCfg.get p) s.cnt s.ccrActive := by
  simp [State.requests]

theorem State.sinces_get (s : State) (q : PhaseTriple Request) (p : Phase) :
    (s.sinces q).get p = deadTimeSince s.params.dt (s.dtReq.get p) (s.dtSince.get p) (q.get p) := by
  cases p <;> rfl

theorem State.channelWordsLegal_iff (s : State) :
    s.channelWordsLegal = true ↔ ∀ p, ChanWord.isCfg (s.activeCfg.get p) = true := by
  constructor
  · intro h p
    simp only [State.channelWordsLegal, Bool.and_eq_true] at h
    cases p
    · exact h.1.1
    · exact h.1.2
    · exact h.2
  · intro h
    have hu := h .u; have hv := h .v; have hw := h .w
    simp only [PhaseTriple.get] at hu hv hw
    simp [State.channelWordsLegal, hu, hv, hw]

end Sys2Proof.Machine
end

