-- ==== Sys2Proof/Laws/Exec.lean ====
section
/-! SUPPORT. What a command can do, said once (`exec_cases`), the frame that all commands share, and when a command
completes. -/

namespace Sys2Proof.Machine

/-- The sector whose row a running DECODE applies (43_throttle.md R187). -/
def appliedSector (p : Params) (current : SectorWord) : SectorWord :=
  if advancesBefore p then nextSector current else current

/-- The sector after a running DECODE (43_throttle.md R187). -/
def sectorAfter (p : Params) (current : SectorWord) : SectorWord :=
  if p.advanceOnDecode then nextSector current else current

theorem appliedSector_lt {p : Params} {current : SectorWord} (h : current.toNat < 6) :
    (appliedSector p current).toNat < 6 := by
  unfold appliedSector
  split
  · exact nextSector_lt _
  · exact h

theorem sectorAfter_lt {p : Params} {current : SectorWord} (h : current.toNat < 6) :
    (sectorAfter p current).toNat < 6 := by
  unfold sectorAfter
  split
  · exact nextSector_lt _
  · exact h

/-- A running DECODE, the optional sector steps resolved. -/
theorem runThrottle_some {s : State} {d : Half} {row : PhaseTriple DriveIntent}
    (h : phaseTable (appliedSector s.params s.sector) = some row) :
    runThrottle d s = .next
      ((s.setSector (sectorAfter s.params s.sector)).driveRow row
        (saturateDuty s.params.period d)) := by
  unfold runThrottle sectorAfter
  unfold appliedSector at h
  cases hb : advancesBefore s.params <;> cases ha : advancesAfter s.params <;> rw [hb] at h <;>
    simp only [advancesBefore, advancesAfter] at hb ha <;>
    rw [applyRow_some (row := row) (by simpa [selectSector] using h)] <;>
    cases hadv : s.params.advanceOnDecode <;> cases hord : s.params.stepOrder <;> simp_all <;> rfl

theorem runThrottle_none {s : State} {d : Half}
    (h : phaseTable (appliedSector s.params s.sector) = none) :
    runThrottle d s = .fault .phaseTableIndex := by
  unfold runThrottle
  unfold appliedSector at h
  cases hb : advancesBefore s.params <;> rw [hb] at h <;> simp_all [applyRow, selectSector]

/-- Every way a command can give a next state, with that state. -/
theorem exec_cases {i : Instr} {s t : State} (h : exec i s = .next t) :
    (i = .nop ∧ t = s.setResp .ok) ∨
    (i = .advance ∧ t = s.advanceSector.setResp .ok) ∨
    (i = .retreat ∧ t = s.retreatSector.setResp .ok) ∨
    (∃ k d row, i = .apply k d ∧ phaseTable (selectSector k s.sector) = some row ∧
      t = s.driveRow row (saturateDuty s.params.period d)) ∨
    (i = .stop ∧ t = s.stopMotor) ∨
    (∃ w, i = .decode w ∧ (w.toNat < s.params.pMin ∨ s.params.pMax < w.toNat) ∧ t = s.setResp .reject) ∨
    (∃ w, i = .decode w ∧ (s.params.pMin ≤ w.toNat ∧ w.toNat ≤ s.params.pMax ∧ w.toNat < s.params.wStop) ∧
      t = (s.setDuty 0).stopMotor) ∨
    (∃ w row, i = .decode w ∧ (s.params.pMin ≤ w.toNat ∧ w.toNat ≤ s.params.pMax ∧ s.params.wStop ≤ w.toNat) ∧
      phaseTable (appliedSector s.params s.sector) = some row ∧
      t = (s.setSector (sectorAfter s.params s.sector)).driveRow row
        (saturateDuty s.params.period (BitVec.ofNat 16 ((clampWidth s.params w - s.params.wMin) * s.params.k)))) := by
  cases i with
  | nop => simp only [exec, execNop, Host.Outcome.next.injEq] at h; simp [h]
  | advance => simp only [exec, execAdvance, Host.Outcome.next.injEq] at h; simp [h]
  | retreat => simp only [exec, execRetreat, Host.Outcome.next.injEq] at h; simp [h]
  | stop => simp only [exec, execStop, Host.Outcome.next.injEq] at h; simp [h]
  | apply k d =>
    simp only [exec, execApply] at h
    rcases applyRow_cases k d s with ⟨row, hrow, heq⟩ | ⟨-, heq⟩
    · rw [heq, Host.Outcome.next.injEq] at h
      exact .inr (.inr (.inr (.inl ⟨k, d, row, rfl, hrow, h.symm⟩)))
    · simp [heq] at h
  | decode w =>
    simp only [exec, execDecode] at h
    rcases throttle_cases s.params w with ⟨he, hw⟩ | ⟨he, hw⟩ | ⟨he, hw⟩ <;> rw [he] at h <;> simp only at h
    · rw [Host.Outcome.next.injEq] at h
      exact .inr (.inr (.inr (.inr (.inr (.inl ⟨w, rfl, hw, h.symm⟩)))))
    · rw [Host.Outcome.next.injEq] at h
      exact .inr (.inr (.inr (.inr (.inr (.inr (.inl ⟨w, rfl, hw, h.symm⟩))))))
    · cases hrow : phaseTable (appliedSector s.params s.sector) with
      | none => rw [runThrottle_none hrow] at h; simp at h
      | some row =>
        rw [runThrottle_some hrow, Host.Outcome.next.injEq] at h
        exact .inr (.inr (.inr (.inr (.inr (.inr (.inr ⟨w, row, rfl, hw, rfl, h.symm⟩))))))

/-- What no command writes: the active elements, the timing state, `err`, the host's drives, the configuration. -/
theorem exec_frame {i : Instr} {s t : State} (h : exec i s = .next t) :
    t.activeCfg = s.activeCfg ∧ t.ccrActive = s.ccrActive ∧ t.cnt = s.cnt ∧ t.dtReq = s.dtReq ∧ t.dtSince = s.dtSince ∧
    t.err = s.err ∧ t.inputs = s.inputs ∧ t.params = s.params := by
  rcases exec_cases h with ⟨-, rfl⟩ | ⟨-, rfl⟩ | ⟨-, rfl⟩ | ⟨_, _, _, -, -, rfl⟩ | ⟨-, rfl⟩ | ⟨_, -, -, rfl⟩ | ⟨_, -, -, rfl⟩ |
    ⟨_, _, -, -, -, rfl⟩ <;> simp

/-- No command is refused. -/
theorem exec_not_refused (i : Instr) (s : State) (r : Refusal) : exec i s ≠ .refused r := by
  cases i with
  | nop => simp [exec, execNop]
  | advance => simp [exec, execAdvance]
  | retreat => simp [exec, execRetreat]
  | stop => simp [exec, execStop]
  | apply k d =>
    simp only [exec, execApply]
    rcases applyRow_cases k d s with ⟨_, -, heq⟩ | ⟨-, heq⟩ <;> simp [heq]
  | decode w =>
    simp only [exec, execDecode]
    rcases throttle_cases s.params w with ⟨he, -⟩ | ⟨he, -⟩ | ⟨he, -⟩ <;> rw [he] <;> simp only
    · simp
    · simp
    · cases hrow : phaseTable (appliedSector s.params s.sector) with
      | none => simp [runThrottle_none hrow]
      | some row => simp [runThrottle_some hrow]

/-- A well-formed command completes whenever the sector is in 0..5. -/
theorem exec_completes {i : Instr} (hi : i.wellFormed = true) {s : State} (hs : s.sector.toNat < 6) :
    ∃ t, exec i s = .next t := by
  cases i with
  | nop => exact ⟨_, rfl⟩
  | advance => exact ⟨_, rfl⟩
  | retreat => exact ⟨_, rfl⟩
  | stop => exact ⟨_, rfl⟩
  | apply k d =>
    have hsel : (selectSector k s.sector).toNat < 6 := by
      unfold selectSector
      split
      · exact hs
      · rename_i h7
        have h6 : k ≠ 6 := by simpa [Instr.wellFormed] using hi
        clear hi
        revert k; decide
    obtain ⟨row, hrow⟩ := phaseTable_of_lt hsel
    exact ⟨_, by simp only [exec, execApply]; exact applyRow_some hrow⟩
  | decode w =>
    simp only [exec, execDecode]
    rcases throttle_cases s.params w with ⟨he, -⟩ | ⟨he, -⟩ | ⟨he, -⟩ <;> rw [he] <;> simp only
    · exact ⟨_, rfl⟩
    · exact ⟨_, rfl⟩
    · obtain ⟨row, hrow⟩ := phaseTable_of_lt (appliedSector_lt (p := s.params) hs)
      exact ⟨_, runThrottle_some hrow⟩

end Sys2Proof.Machine
end

