-- ==== Sys2Proof/Laws/Clock.lean ====
section
/-! SUPPORT. What a clock can do, said once (`step_cases`), what a tick does, and the algebra of runs. -/

namespace Sys2Proof.Machine

/-! ### The time base and the tick -/

theorem State.atUpdate_iff (s : State) : s.atUpdate = true ↔ s.cnt.toNat = s.params.period - 1 := by
  simp [State.atUpdate]

/-- The update event: the counter wraps and nothing stays pending (41_channel_driver.md R124). -/
theorem State.tick_at_update {s : State} (h : s.cnt.toNat = s.params.period - 1) :
    s.tick.cnt = 0 ∧ s.tick.commitPending = false := by
  have hu : s.atUpdate = true := s.atUpdate_iff.mpr h
  simp [State.tick_cnt, State.tick_commitPending, State.timeBase, hu]

/-- The update event with a commit pending: the shadow and the duty become active together (42_commutation.md R162). -/
theorem State.tick_commits {s : State} (h : s.cnt.toNat = s.params.period - 1) (hp : s.commitPending = true) :
    s.tick.activeCfg = s.shadowCfg ∧ s.tick.ccrActive = s.duty := by
  have hu : s.atUpdate = true := s.atUpdate_iff.mpr h
  simp [State.tick_activeCfg, State.tick_ccrActive, State.timeBase, hu, State.commit, hp]

/-- A tick with nothing pending changes no active element. -/
theorem State.tick_idle {s : State} (hp : s.commitPending = false) :
    s.tick.activeCfg = s.activeCfg ∧ s.tick.ccrActive = s.ccrActive := by
  cases hu : s.atUpdate <;>
    simp [State.tick_activeCfg, State.tick_ccrActive, State.timeBase, hu, State.commit, hp]

theorem State.tick_between {s : State} (h : s.cnt.toNat ≠ s.params.period - 1) :
    s.tick.cnt = s.cnt + 1 ∧ s.tick.commitPending = s.commitPending ∧ s.tick.activeCfg = s.activeCfg ∧
    s.tick.ccrActive = s.ccrActive := by
  have hu : s.atUpdate = false := by
    rw [← Bool.not_eq_true, State.atUpdate_iff]; exact h
  simp [State.tick_cnt, State.tick_activeCfg, State.tick_ccrActive, State.tick_commitPending, State.timeBase, hu]

/-- After a tick every request pair is the one the channel computes from what the tick wrote (41_channel_driver.md R124). -/
theorem State.tick_requests (s : State) : s.tick.dtReq = s.tick.requests := rfl

theorem State.tick_dtSince_get (s : State) (p : Phase) :
    s.tick.dtSince.get p = deadTimeSince s.params.dt (s.dtReq.get p) (s.dtSince.get p) (s.tick.dtReq.get p) := by
  rw [State.tick_dtSince, State.sinces_get, ← State.tick_dtReq]

theorem State.tick_since_toNat {s : State} (hdt : s.params.dt ≤ 255) (p : Phase) :
    (s.tick.dtSince.get p).toNat =
      if s.tick.dtReq.get p = s.dtReq.get p then min ((s.dtSince.get p).toNat + 1) s.params.dt else 0 := by
  rw [State.tick_dtSince_get, deadTimeSince_toNat hdt]

/-- RESP has no part in a tick. -/
theorem State.tick_setResp (s : State) (r : Resp) : (s.setResp r).tick = s.tick.setResp r := by
  have h : (s.setResp r).atUpdate = s.atUpdate := rfl
  cases hu : s.atUpdate <;> cases hp : s.commitPending <;>
    simp [State.tick, State.timeBase, State.commit, h, hu, hp] <;> rfl

/-- `err` has no part in a tick. -/
theorem State.tick_setErr (s : State) : s.setErr.tick = s.tick.setErr := by
  have h : s.setErr.atUpdate = s.atUpdate := rfl
  cases hu : s.atUpdate <;> cases hp : s.commitPending <;>
    simp [State.tick, State.timeBase, State.commit, h, hu, hp] <;> rfl

/-! ### One clock -/

@[simp] theorem State.drive_nextInput (s : State) (inp : PortInput) : (s.drive inp).nextInput = inp := rfl
@[simp] theorem State.drive_dropInput (s : State) (inp : PortInput) : (s.drive inp).dropInput = s.dropInput := rfl

theorem execWord_cases {cmd : Word} {s t : State} (h : execWord cmd s = .next t) :
    (∃ i, decode cmd = some i ∧ exec i s = .next t) ∨ (decode cmd = none ∧ t = s.raiseIllegal) := by
  unfold execWord at h
  split at h
  · rename_i i hi; exact .inl ⟨i, hi, h⟩
  · rename_i hi
    rw [Host.Outcome.next.injEq] at h
    exact .inr ⟨hi, h.symm⟩

/-- Every way the command part of a clock can go on. -/
theorem runCommand_cases {inp : PortInput} {s t : State} (h : runCommand inp s = .next t) :
    (inp.cmdValid = false ∧ t = s.setResp .ok) ∨
    (inp.cmdValid = true ∧ ∃ i, decode inp.cmd = some i ∧ exec i s = .next t) ∨
    (inp.cmdValid = true ∧ decode inp.cmd = none ∧ t = s.raiseIllegal) := by
  unfold runCommand at h
  cases hv : inp.cmdValid <;> rw [hv] at h
  · simp only [execNop, Bool.false_eq_true, if_false, Host.Outcome.next.injEq] at h
    exact .inl ⟨rfl, h.symm⟩
  · rcases execWord_cases h with hc | hc
    · exact .inr (.inl ⟨rfl, hc⟩)
    · exact .inr (.inr ⟨rfl, hc⟩)

/-- What no command part of a clock writes, an illegal word's response included. -/
theorem runCommand_frame {inp : PortInput} {s t : State} (h : runCommand inp s = .next t) :
    t.activeCfg = s.activeCfg ∧ t.ccrActive = s.ccrActive ∧ t.cnt = s.cnt ∧ t.dtReq = s.dtReq ∧ t.dtSince = s.dtSince ∧
    t.inputs = s.inputs ∧ t.params = s.params := by
  rcases runCommand_cases h with ⟨-, rfl⟩ | ⟨-, i, -, he⟩ | ⟨-, -, rfl⟩
  · simp
  · have := exec_frame he; simp_all
  · simp

/-- Every way a clock can give a next state: a reset, or a command part and one tick (20_memory.md R52). -/
theorem step_cases {s t : State} (h : step s = .next t) :
    s.params.Valid ∧
    ((s.nextInput.rst = true ∧ t = s.dropInput.resetClock) ∨
     (s.nextInput.rst = false ∧ ∃ u, runCommand s.nextInput s.dropInput = .next u ∧
       u.tick.channelWordsLegal = true ∧ t = u.tick)) := by
  unfold step clock at h
  split at h
  · rename_i hv
    refine ⟨hv, ?_⟩
    unfold clockWith at h
    cases hr : s.nextInput.rst <;> rw [hr] at h
    · simp only [Bool.false_eq_true, if_false] at h
      obtain ⟨u, hu, hf⟩ := andThen_eq_next.mp h
      unfold finishClock at hf
      split at hf
      · rename_i hl
        rw [Host.Outcome.next.injEq] at hf
        exact .inr ⟨rfl, u, hu, hl, hf.symm⟩
      · simp at hf
    · simp only [if_true, Host.Outcome.next.injEq] at h
      exact .inl ⟨rfl, h.symm⟩
  · simp at h

/-- A clock without reset whose command part goes on, and whose tick leaves CFG words active, completes. -/
theorem step_of_runCommand {s u : State} (hv : s.params.Valid) (hr : s.nextInput.rst = false)
    (hu : runCommand s.nextInput s.dropInput = .next u) (hl : u.tick.channelWordsLegal = true) :
    step s = .next u.tick := by
  simp [step, clock, hv, clockWith, hr, hu, finishClock, hl]

theorem step_reset {s : State} (hv : s.params.Valid) (hr : s.nextInput.rst = true) :
    step s = .next s.dropInput.resetClock := by
  simp [step, clock, hv, clockWith, hr]

theorem step_params {s t : State} (h : step s = .next t) : t.params = s.params := by
  obtain ⟨-, ⟨-, rfl⟩ | ⟨-, u, hu, -, rfl⟩⟩ := step_cases h
  · simp
  · simp [(runCommand_frame hu).2.2.2.2.2.2]

theorem step_inputs {s t : State} (h : step s = .next t) : t.inputs = s.inputs.tail := by
  obtain ⟨-, ⟨-, rfl⟩ | ⟨-, u, hu, -, rfl⟩⟩ := step_cases h
  · simp
  · simp [(runCommand_frame hu).2.2.2.2.2.1]

/-! ### onClock -/

@[simp] theorem State.onClock_sector (c : Nat) (s : State) : (s.onClock c).sector = s.sector := rfl
@[simp] theorem State.onClock_run (c : Nat) (s : State) : (s.onClock c).run = s.run := rfl
@[simp] theorem State.onClock_duty (c : Nat) (s : State) : (s.onClock c).duty = s.duty := rfl
@[simp] theorem State.onClock_shadowCfg (c : Nat) (s : State) : (s.onClock c).shadowCfg = s.shadowCfg := rfl
@[simp] theorem State.onClock_commitPending (c : Nat) (s : State) : (s.onClock c).commitPending = s.commitPending := rfl
@[simp] theorem State.onClock_activeCfg (c : Nat) (s : State) : (s.onClock c).activeCfg = s.activeCfg := rfl
@[simp] theorem State.onClock_ccrActive (c : Nat) (s : State) : (s.onClock c).ccrActive = s.ccrActive := rfl
@[simp] theorem State.onClock_cnt (c : Nat) (s : State) : (s.onClock c).cnt = s.cnt := rfl
@[simp] theorem State.onClock_dtReq (c : Nat) (s : State) : (s.onClock c).dtReq = s.dtReq := rfl
@[simp] theorem State.onClock_dtSince (c : Nat) (s : State) : (s.onClock c).dtSince = s.dtSince := rfl
@[simp] theorem State.onClock_err (c : Nat) (s : State) : (s.onClock c).err = s.err := rfl
@[simp] theorem State.onClock_resp (c : Nat) (s : State) : (s.onClock c).resp = s.resp := rfl
@[simp] theorem State.onClock_inputs (c : Nat) (s : State) : (s.onClock c).inputs = s.inputs := rfl
@[simp] theorem State.onClock_params (c : Nat) (s : State) : (s.onClock c).params = { s.params with clk := c } := rfl
@[simp] theorem State.onClock_nextInput (c : Nat) (s : State) : (s.onClock c).nextInput = s.nextInput := rfl
@[simp] theorem State.onClock_dropInput (c : Nat) (s : State) : (s.onClock c).dropInput = s.dropInput.onClock c := rfl

/-! ### Runs -/

@[simp] theorem clocks_zero (s : State) : clocks 0 s = .next s := rfl

theorem clocks_succ (n : Nat) (s : State) : clocks (n + 1) s = andThen (step s) (clocks n) := by
  have hcore : Sys2Proof.core.step s = step s := rfl
  simp only [clocks, Host.Core.run]
  cases h : step s <;> rw [h] at hcore <;> rw [hcore] <;> rfl

theorem clocks_succ_next {n : Nat} {s t : State} :
    clocks (n + 1) s = .next t ↔ ∃ u, step s = .next u ∧ clocks n u = .next t := by
  rw [clocks_succ, andThen_eq_next]

theorem clocks_add_next {m n : Nat} {s t : State} :
    clocks (m + n) s = .next t ↔ ∃ u, clocks m s = .next u ∧ clocks n u = .next t := by
  induction m generalizing s with
  | zero => simp
  | succ m ih =>
    rw [Nat.succ_add, clocks_succ_next]
    simp only [clocks_succ_next, ih]
    constructor
    · rintro ⟨u, hu, v, hv, ht⟩; exact ⟨v, ⟨u, hu, hv⟩, ht⟩
    · rintro ⟨v, ⟨u, hu, hv⟩, ht⟩; exact ⟨u, hu, v, hv, ht⟩

/-- The last clock of a run apart. -/
theorem clocks_succ_last {n : Nat} {s t : State} :
    clocks (n + 1) s = .next t ↔ ∃ u, clocks n s = .next u ∧ step u = .next t := by
  rw [clocks_add_next]
  simp only [clocks_succ_next, clocks_zero, Host.Outcome.next.injEq]
  constructor
  · rintro ⟨u, hu, v, hv, rfl⟩; exact ⟨u, hu, hv⟩
  · rintro ⟨u, hu, hv⟩; exact ⟨u, hu, t, hv, rfl⟩

theorem State.inputAt_zero (s : State) : s.inputAt 0 = s.nextInput := by
  cases h : s.inputs <;> simp [State.inputAt, State.nextInput, h]

theorem step_inputAt {s t : State} (h : step s = .next t) (i : Nat) : t.inputAt i = s.inputAt (i + 1) := by
  simp only [State.inputAt, step_inputs h]
  cases s.inputs <;> simp

theorem clocks_inputAt {n : Nat} {s t : State} (h : clocks n s = .next t) (i : Nat) : t.inputAt i = s.inputAt (n + i) := by
  induction n generalizing s with
  | zero => simp at h; rw [h, Nat.zero_add]
  | succ n ih =>
    obtain ⟨u, hu, ht⟩ := clocks_succ_next.mp h
    rw [ih ht, step_inputAt hu]
    congr 1; omega

end Sys2Proof.Machine
end

