-- ==== Sys2Proof/Laws/PerInstr.lean ====
section
/-! SUPPORT. One statement per instruction, proved constructor by constructor: the word of a well-formed instruction lies in
the instruction's row of 30_encoding.md R74. -/

namespace Sys2Proof.Laws.TableRow

open Sys2Proof

/-- The word of a well-formed instruction matches its row's mask, pattern and extra condition (30_encoding.md R74). -/
def Statement (i : Instr) : Prop := i.wellFormed = true → i.row.accepts (encode i) = true

theorem nop : Statement .nop := by intro _; decide

theorem advance : Statement .advance := by intro _; decide

theorem retreat : Statement .retreat := by intro _; decide

theorem stop : Statement .stop := by intro _; decide

theorem apply_masked (s : SectorWord) (d : Half) : packWord 0x3 s d &&& 0xF8FF0000#32 = 0x30000000#32 := by
  apply BitVec.eq_of_getLsbD_eq
  intro i hi
  rw [BitVec.getLsbD_and, packWord_getLsbD]
  interval_cases i <;> simp

theorem apply (s : SectorWord) (d : Half) : Statement (.apply s d) := by
  intro h
  have h6 : s ≠ 6 := by simpa [Instr.wellFormed] using h
  have hs : sectorField (packWord 0x3 s d) ≠ 6 := by rw [sectorField_pack]; exact h6
  have hm := apply_masked s d
  unfold OpcodeRow.accepts
  rw [Bool.and_eq_true]
  exact ⟨beq_iff_eq.mpr hm, by simpa [Instr.row, encode] using hs⟩

theorem decode_masked (w : Half) : packWord 0x5 0 w &&& 0xFFFF0000#32 = 0x50000000#32 := by
  apply BitVec.eq_of_getLsbD_eq
  intro i hi
  rw [BitVec.getLsbD_and, packWord_getLsbD]
  interval_cases i <;> simp

theorem decode (w : Half) : Statement (.decode w) := by
  intro _
  unfold OpcodeRow.accepts
  rw [Bool.and_eq_true]
  exact ⟨beq_iff_eq.mpr (decode_masked w), by simp [Instr.row]⟩

end Sys2Proof.Laws.TableRow
end

