-- ==== Sys2Proof/Laws/Ports.lean ====
section
/-! SUPPORT. The output ports bit by bit. -/

namespace Sys2Proof.Machine

/-- STATUS, one bit at a time (10_state.md R37). -/
theorem State.status_getLsbD (s : State) (i : Nat) :
    s.status.getLsbD i =
      if i < 3 then s.sector.getLsbD i else if i < 4 then s.run.bit else if i < 5 then s.commitPending
      else if i < 6 then s.err else if i < 16 then false else s.duty.getLsbD (i - 16) := by
  unfold State.status
  simp only [BitVec.getLsbD_append, BitVec.getLsbD_ofBool, BitVec.getLsbD_zero]
  have e1 : i - 3 - 1 = i - 4 := by omega
  have e2 : i - 4 - 1 = i - 5 := by omega
  have e3 : i - 5 - 1 = i - 6 := by omega
  have e4 : i - 6 - 10 = i - 16 := by omega
  simp only [e1, e2, e3, e4]
  by_cases h3 : i < 3
  · simp [h3]
  by_cases h4 : i < 4
  · have : i - 3 = 0 := by omega
    simp [h3, h4, this]
  by_cases h5 : i < 5
  · have h6 : ¬ i - 3 < 1 := by omega
    have : i - 4 = 0 := by omega
    simp [h3, h4, h5, h6, this]
  by_cases h6 : i < 6
  · have a : ¬ i - 3 < 1 := by omega
    have b : ¬ i - 4 < 1 := by omega
    have : i - 5 = 0 := by omega
    simp [h3, h4, h5, h6, a, b, this]
  have a : ¬ i - 3 < 1 := by omega
  have b : ¬ i - 4 < 1 := by omega
  have c : ¬ i - 5 < 1 := by omega
  by_cases h7 : i < 16
  · have d : i - 6 < 10 := by omega
    simp [h3, h4, h5, h6, h7, a, b, c, d]
  · have d : ¬ i - 6 < 10 := by omega
    simp [h3, h4, h5, h6, h7, a, b, c, d]

/-- GATE, bit by bit (10_state.md R39). -/
theorem State.gate_bits (s : State) :
    s.gate.getLsbD 0 = s.highOn .u ∧ s.gate.getLsbD 1 = s.lowOn .u ∧ s.gate.getLsbD 2 = s.highOn .v ∧
    s.gate.getLsbD 3 = s.lowOn .v ∧ s.gate.getLsbD 4 = s.highOn .w ∧ s.gate.getLsbD 5 = s.lowOn .w := by
  unfold State.gate
  cases s.highOn .u <;> cases s.lowOn .u <;> cases s.highOn .v <;> cases s.lowOn .v <;> cases s.highOn .w <;>
    cases s.lowOn .w <;> decide

/-- ACTCFG, one bit at a time (10_state.md R40). -/
theorem State.actcfg_getLsbD (s : State) (i : Nat) :
    s.actcfg.getLsbD i =
      if i < 5 then s.activeCfg.u.getLsbD i else if i < 10 then s.activeCfg.v.getLsbD (i - 5)
      else s.activeCfg.w.getLsbD (i - 10) := by
  unfold State.actcfg
  simp only [BitVec.getLsbD_append]
  have e : i - 5 - 5 = i - 10 := by omega
  have h : (i - 5 < 5) = (i < 5 ∨ i < 10) := by apply propext; omega
  simp only [e, h]
  by_cases h5 : i < 5 <;> simp [h5]

end Sys2Proof.Machine
end

