-- ==== Sys2Proof/Tests/Slice0.lean ====
section
/-! SUPPORT. Own tests: expected results are the spec's own (30_encoding.md R81, 95_test_vectors.md, the rules' examples);
and, for every statement with hypotheses, a concrete state and operands that meet them all. -/

namespace Sys2Proof.Tests

open Sys2Proof Sys2Proof.Machine

/-! ## Helpers -/

/-- Configuration T of 95_test_vectors.md. -/
def configT : Params where
  period := 10
  dt := 2
  pMin := 900
  pMax := 1100
  wMin := 1000
  wMax := 1010
  wStop := 1002
  k := 1
  stepOrder := .advanceThenApply
  advanceOnDecode := true
  clk := 0

/-- The reset state of configuration T. -/
def resetT : State := State.resetWith configT

/-- The state after one clock, the state itself where the clock stops. -/
def after (s : State) : State :=
  match step s with
  | .next t => t
  | .fault _ => s
  | .refused _ => s

/-- The state after the clock in which the host issues `w`. -/
def issue (s : State) (w : Nat) : State := after (s.withFetchWord 32 w)

/-- The three words of a row, all FLOAT outside the table. -/
def rowOf (r : SectorWord) : PhaseTriple ChanWord := ((phaseTable r).map rowWords).getD floatWords

/-- A RUNNING state of configuration T with row `r` active and in the shadow, compare value `c`, counter `n`, and the given
dead-time counters; its requests are those of its active elements. -/
def running (r : SectorWord) (c n : Half) (since : PhaseTriple SinceWord) : State :=
  let s : State := { resetT with
    sector := r, run := .running, duty := c, shadowCfg := rowOf r, activeCfg := rowOf r, ccrActive := c, cnt := n,
    dtSince := since }
  { s with dtReq := s.requests }

/-- Row `r` in the shadow, to be committed with the duty `d`. -/
def pending (r : SectorWord) (d : Half) (s : State) : State :=
  { s with sector := r, run := .running, duty := d, shadowCfg := rowOf r, commitPending := true }

/-- Row words as a test. -/
def isRowWordsB (c : PhaseTriple ChanWord) : Bool :=
  ([0, 1, 2, 3, 4, 5] : List SectorWord).any fun r => (phaseTable r).any fun row => c == rowWords row

theorem isRowWords_of_test {c : PhaseTriple ChanWord} (h : isRowWordsB c = true) : IsRowWords c := by
  simp only [isRowWordsB, List.any_eq_true, Option.any_eq_true] at h
  obtain ⟨r, -, row, hrow, hc⟩ := h
  exact ⟨r, row, hrow, by simpa using hc⟩

/-- A property of the three phases as a test. -/
def everyPhase (f : Phase → Bool) : Bool := f .u && f .v && f .w

theorem everyPhase_iff (f : Phase → Bool) : everyPhase f = true ↔ ∀ p, f p = true := by
  simp only [everyPhase, Bool.and_eq_true]
  constructor
  · rintro ⟨⟨hu, hv⟩, hw⟩ p; cases p <;> assumption
  · intro h; exact ⟨⟨h .u, h .v⟩, h .w⟩

/-- `State.Inv` as a test. -/
def invB (s : State) : Bool :=
  decide s.params.Valid && decide (s.sector.toNat < 6) && decide (s.cnt.toNat < s.params.period) &&
  decide (s.duty.toNat ≤ s.params.period) && decide (s.ccrActive.toNat ≤ s.params.period) &&
  everyPhase (fun p => decide ((s.dtSince.get p).toNat ≤ s.params.dt)) &&
  (s.run != .stopped || s.shadowCfg == floatWords) && (s.run != .running || isRowWordsB s.shadowCfg) &&
  everyPhase (fun p => ChanWord.isCfg (s.shadowCfg.get p)) && everyPhase (fun p => ChanWord.isCfg (s.activeCfg.get p)) &&
  (s.commitPending || (s.activeCfg == s.shadowCfg && s.ccrActive == s.duty)) &&
  everyPhase (fun p => !((s.dtReq.get p).a && (s.dtReq.get p).b))

theorem inv_of_test {s : State} (h : invB s = true) : s.Inv := by
  simp only [invB, Bool.and_eq_true, everyPhase_iff, decide_eq_true_eq] at h
  obtain ⟨⟨⟨⟨⟨⟨⟨⟨⟨⟨⟨h1, h2⟩, h3⟩, h4⟩, h5⟩, h6⟩, h7⟩, h8⟩, h9⟩, h10⟩, h11⟩, h12⟩ := h
  refine ⟨h1, h2, h3, h4, h5, h6, ?_, ?_, h9, h10, ?_, ?_⟩
  · intro hr; simpa [hr] using h7
  · intro hr; exact isRowWords_of_test (by simpa [hr] using h8)
  · intro hp; simpa [hp] using h11
  · intro p; have := h12 p; simp at this; rintro ⟨ha, hb⟩; simp [ha, hb] at this

/-- `State.Consistent` as a test. -/
def consistentB (s : State) : Bool :=
  invB s && (s.activeCfg == floatWords || isRowWordsB s.activeCfg) && s.dtReq == s.requests

theorem consistent_of_test {s : State} (h : consistentB s = true) : s.Consistent := by
  simp only [consistentB, Bool.and_eq_true, Bool.or_eq_true, beq_iff_eq] at h
  exact ⟨inv_of_test h.1.1, h.1.2.imp_right isRowWords_of_test, h.2⟩

/-! ## Syntax, decoding, encoding -/

/-- The one check of WellFormed refuses its ill-formed term (30_encoding.md R73). -/
theorem test_wellFormed_refuses_apply_six : (Instr.apply 6 100).wellFormed = false := by decide

/-- Words written bit by bit from 30_encoding.md R70: OP, RSV0, S, RSV1, DATA. -/
theorem test_decode_nop : decode 0b0000_0_000_00000000_0000000000000000 = some .nop := by decide
theorem test_decode_advance : decode 0b0001_0_000_00000000_0000000000000000 = some .advance := by decide
theorem test_decode_retreat : decode 0b0010_0_000_00000000_0000000000000000 = some .retreat := by decide
theorem test_decode_apply : decode 0b0011_0_101_00000000_1111110111101000 = some (.apply 5 65000) := by decide
theorem test_decode_apply_current : decode 0b0011_0_111_00000000_0111111011110100 = some (.apply 7 32500) := by decide
theorem test_decode_stop : decode 0b0100_0_000_00000000_0000000000000000 = some .stop := by decide
theorem test_decode_decode : decode 0b0101_0_000_00000000_0000010111011100 = some (.decode 1500) := by decide

/-- The illegal words of 95_test_vectors.md 2.1. -/
theorem test_decode_illegal :
    ([0x36000064, 0x38000000, 0x30010000, 0x10000001, 0x01000000, 0x40000001, 0x51000000, 0x60000000, 0xF0000000,
      0xFFFFFFFF] : List Word).all (fun w => decode w == none) = true := by decide

theorem test_encode_apply : encode (.apply 7 32500) = 0x37007EF4 := by decide
theorem test_decodeTableWord : decodeTableWord 32 0x500005DC = some (.decode 1500) := by decide

theorem test_parse_hex_and_comment :
    parseLine "  APPLY cur , 0x10 ; step".toList = some [.apply .cur 16] := by decide
theorem test_assembler_refuses_sector_six : (AsmLine.apply (.num 6) 0).assemble = none := by decide

/-! ## One clock, from 95_test_vectors.md -/

/-- SQ3. -/
theorem test_nop : issue State.reset 0x00000000 = { State.reset with cnt := 1 } := by decide
/-- R201's example: 5 wraps to 0. -/
theorem test_advance_wraps : (issue { State.reset with sector := 5 } 0x10000000).status = 0x00000000 := by decide
/-- SQ4: ADVANCE leaves the shadow alone. -/
theorem test_advance_keeps_shadow : (issue (running 0 4 3 (.all 2)) 0x10000000).shadowCfg = ⟨0x19, 0x18, 0x1C⟩ := by decide
/-- P3, clock 0. -/
theorem test_retreat : (issue State.reset 0x20000000).status = 0x00000005 := by decide
/-- CE1. -/
theorem test_apply : (issue State.reset 0x30007EF4).status = 0x7EF40018 ∧
    (issue State.reset 0x30007EF4).shadowCfg = ⟨0x19, 0x18, 0x1C⟩ := by decide
/-- CE3. -/
theorem test_apply_saturates : (issue resetT 0x30000014).status = 0x000A0018 := by decide
/-- CE4, clock 12. -/
theorem test_stop : (issue (running 0 10 2 (.all 2)) 0x40000000).status = 0x000A0010 := by decide
/-- E4. -/
theorem test_decode_runs : (issue State.reset 0x500005DC).status = 0x7EF40019 ∧
    (issue State.reset 0x500005DC).shadowCfg = ⟨0x19, 0x1C, 0x18⟩ := by decide
/-- E1, ER2. -/
theorem test_decode_rejects : issue State.reset 0x500001F4 = { State.reset with cnt := 1, resp := .reject } := by decide
/-- TD4: the other step order. -/
theorem test_apply_then_advance :
    (issue (State.resetWith { Params.configD with stepOrder := .applyThenAdvance }) 0x500005DC).status = 0x7EF40019 ∧
    (issue (State.resetWith { Params.configD with stepOrder := .applyThenAdvance }) 0x500005DC).shadowCfg =
      ⟨0x19, 0x18, 0x1C⟩ := by decide
/-- ER1. -/
theorem test_illegal_word : issue State.reset 0x36000064 = { State.reset with cnt := 1, err := true, resp := .illegal } := by
  decide
/-- CE2: command and commit in the clock that starts with cnt = 9. -/
theorem test_commit_in_the_same_clock : (issue { resetT with cnt := 9 } 0x30000004).status = 0x00040008 ∧
    (issue { resetT with cnt := 9 } 0x30000004).actcfg = 0x7319 := by decide
/-- CD1: S_11 to S_12, S_13 to S_14, S_19 to S_20. -/
theorem test_gate_rises : (after (running 0 4 1 ⟨1, 1, 2⟩)).gate = 0x09 := by decide
theorem test_gate_falls : (after (running 0 4 3 (.all 2))).gate = 0x08 ∧ (after (running 0 4 9 (.all 2))).gate = 0x08 := by
  decide
/-- CD4: S_19 to S_20, row 2 committed at full duty: no low-side pulse on entering FLOAT. -/
theorem test_float_opens : (after (pending 2 10 (running 0 10 9 (.all 2)))).gate = 0x00 ∧
    (after (pending 2 10 (running 0 10 9 (.all 2)))).actcfg = 0x633C := by decide
/-- CD5: S_19 to S_20, W stays LOW with no gap. -/
theorem test_low_phase_stays : (after (pending 2 4 (running 1 4 9 (.all 2)))).gate = 0x20 := by decide
/-- RS1, RS2: reset, and GATE forced to 0 in the reset clock. -/
theorem test_reset : after ((running 0 4 2 (.all 2)).drive .reset) = resetT ∧
    ((running 0 4 2 (.all 2)).drive .reset).gatePort = 0 ∧ (running 0 4 2 (.all 2)).gate = 0x09 ∧
    State.reset.actcfg = 0x739C := by decide

/-! ## The hypotheses of the statements are met together

One theorem a statement, named after it; a part of the conjunction for each clause that has hypotheses of its own. -/

/-- A state of configuration T in the middle of a period, `cnt = n`, row 0 active, dead times over. -/
def mid (n : Half) : State := running 0 4 n (.all 2)

/-- The same, the host about to issue `ws` and then nothing. -/
def facing (n : Half) (ws : List Word) : State := { mid n with inputs := ws.map PortInput.command }

theorem quiet_past_the_end {s : State} {n : Nat} (h : s.inputs.length ≤ n) (j : Nat) (hj : n ≤ j) :
    (s.inputAt j).quiet = true := by
  rw [State.inputAt, List.getD_eq_default _ _ (by omega)]; decide

theorem noReset_of_empty {s : State} (h : s.inputs = []) (k : Nat) : s.NoReset k := by
  intro i _; rw [State.inputAt, h]; rfl

theorem test_meets_DecodeOfEncodeIsTheInstruction :
    (Instr.apply 7 65535).wellFormed = true ∧ (Instr.apply 0 0).wellFormed = true ∧ Instr.nop.wellFormed = true := by decide

theorem test_meets_LegalWordsAreTheTableRows :
    (Instr.apply 0 0).row ∈ opcodeRows ∧ (Instr.apply 0 0).row.accepts 0x3500FDE8 = true ∧
    decode 0x3500FDE8 = some (.apply 5 65000) := by decide

theorem test_meets_NopWritesNothing :
    (0x00000000 : Word).extractLsb' 28 4 = 0 ∧ (0x0F000001 : Word).extractLsb' 28 4 = 0 ∧
    (mid 9).params.Valid ∧ (mid 9).dropInput.tick.channelWordsLegal = true ∧ configT.Valid ∧ 1 < configT.period := by decide

theorem test_meets_AdvanceStepsTheSectorForward :
    (0x10000001 : Word).extractLsb' 28 4 = 1 ∧
    ∃ s t : State, s.sector = 5 ∧ exec .advance s = .next t := ⟨by decide, { mid 3 with sector := 5 }, _, rfl, rfl⟩

theorem test_meets_RetreatStepsTheSectorBackward :
    (0x20000000 : Word).extractLsb' 28 4 = 2 ∧
    ∃ s t : State, s.sector = 0 ∧ exec .retreat s = .next t := ⟨by decide, mid 3, _, rfl, rfl⟩

/-- Explicit sectors 0 and 5, and the current one. -/
theorem test_meets_ApplyWritesTheRow :
    (0x36000064 : Word).extractLsb' 28 4 = 3 ∧ (5 : SectorWord).toNat < 6 ∧
    phaseTable (if (7 : SectorWord) = 7 then (mid 3).sector else 7) = some ⟨.high, .low, .float⟩ ∧
    phaseTable (if (0 : SectorWord) = 7 then (mid 3).sector else 0) = some ⟨.high, .low, .float⟩ ∧
    phaseTable (if (5 : SectorWord) = 7 then (mid 3).sector else 5) = some ⟨.float, .low, .high⟩ := by decide

theorem test_meets_StopFloatsEveryPhase :
    (0x40000000 : Word).extractLsb' 28 4 = 4 ∧ (∃ t, exec .stop (mid 3) = .next t) ∧ (mid 9).params.Valid ∧
    (mid 9).cnt.toNat = (mid 9).params.period - 1 ∧ ∃ t, step ((mid 9).drive (.command 0x40000000)) = .next t :=
  ⟨by decide, ⟨_, rfl⟩, by decide, by decide, _, rfl⟩

/-- The first clock of a period, and its last. -/
theorem test_meets_StopFloatsEveryPhase_commit :
    ∀ n ∈ [0#16, 9#16],
      let s := facing n [0x40000000]
      s.Inv ∧ s.nextInput = .command 0x40000000 ∧
      (∀ j, 1 ≤ j → j < s.params.period - s.cnt.toNat → (s.inputAt j).quiet = true) := by
  simp only [List.mem_cons, List.not_mem_nil, or_false, forall_eq_or_imp, forall_eq]
  exact ⟨⟨inv_of_test (by decide), rfl, fun j hj _ => quiet_past_the_end (Nat.le_refl 1) j hj⟩,
    ⟨inv_of_test (by decide), rfl, fun j hj _ => quiet_past_the_end (Nat.le_refl 1) j hj⟩⟩

/-- The widths next to the plausibility window of configuration D. -/
theorem test_meets_ImplausibleWidthIsRejected :
    (799#16).toNat < State.reset.params.pMin ∧ State.reset.params.pMax < (2501#16).toNat ∧
    ∃ t, step (State.reset.drive .idle) = .next t := ⟨by decide, by decide, _, rfl⟩

theorem test_meets_StopZoneWidthStops :
    State.reset.params.pMin ≤ (800#16).toNat ∧ (1049#16).toNat ≤ State.reset.params.pMax ∧
      (1049#16).toNat < State.reset.params.wStop ∧ (800#16).toNat ≤ (1049#16).toNat := by decide

/-- Both ends of the running widths, in both step orders. -/
theorem test_meets_RunningWidthDrivesTheMotor :
    ([StepOrder.advanceThenApply, .applyThenAdvance].all fun o => [1002#16, 1100#16].all fun w =>
      let p : Params := { configT with stepOrder := o }
      decide (p.Valid ∧ p.wStop ≤ w.toNat ∧ w.toNat ≤ p.pMax) &&
      (phaseTable (if p.advanceOnDecode = true ∧ p.stepOrder = .advanceThenApply
        then BitVec.ofNat 3 (((State.resetWith p).sector.toNat + 1) % 6) else (State.resetWith p).sector)).isSome) = true := by
  decide

/-- Across the threshold, and above it. -/
theorem test_meets_ThrottleIsMonotone :
    (∃ t₁ t₂, exec (.decode 1000) resetT = .next t₁ ∧ exec (.decode 1002) resetT = .next t₂) ∧
    (∃ t₁ t₂, exec (.decode 1002) resetT = .next t₁ ∧ exec (.decode 1010) resetT = .next t₂) ∧
    resetT.params.Valid ∧ resetT.params.wMin ≤ 1000 ∧ resetT.params.wStop ≤ 1002 ∧ 1010 ≤ resetT.params.wMax :=
  ⟨⟨_, _, rfl, rfl⟩, ⟨_, _, rfl, rfl⟩, by decide⟩

theorem test_meets_StopThresholdsAgree :
    (∃ t, exec (.decode 900) resetT = .next t) ∧ (∃ t, exec (.decode 1100) resetT = .next t) ∧
    resetT.params.Valid ∧ resetT.params.pMin ≤ 900 ∧ 1100 ≤ resetT.params.pMax :=
  ⟨⟨_, rfl⟩, ⟨_, rfl⟩, by decide⟩

/-- APPLY, a stopping DECODE at the threshold, a rejected one, and a running one that does not advance. -/
theorem test_meets_RepeatedCommandsAreIdempotent :
    (∃ t, exec (.apply 7 5) (mid 3) = .next t) ∧
    (∃ t, exec (.decode 1001) (mid 3) = .next t ∧ (1001#16).toNat < (mid 3).params.wStop) ∧
    (∃ t, exec (.decode 1101) (mid 3) = .next t ∧ (mid 3).params.pMax < (1101#16).toNat) ∧
    (∃ t, exec (.decode 1002) { mid 3 with params := { configT with advanceOnDecode := false } } = .next t) :=
  ⟨⟨_, rfl⟩, ⟨_, rfl, by decide⟩, ⟨_, rfl, by decide⟩, ⟨_, rfl⟩⟩

theorem test_meets_CommandsChangeNoOutput : ∃ t, exec (.decode 1005) (mid 3) = .next t := ⟨_, rfl⟩

theorem test_meets_TableReadOutsideItsRowsFaults :
    let s : State := { mid 3 with sector := 6, params := { configT with stepOrder := .applyThenAdvance } }
    6 ≤ s.sector.toNat ∧ s.params.pMin ≤ (1002#16).toNat ∧ s.params.wStop ≤ (1002#16).toNat ∧
    (1002#16).toNat ≤ s.params.pMax ∧
    ¬(s.params.advanceOnDecode = true ∧ s.params.stepOrder = .advanceThenApply) := by decide

theorem test_meets_PhaseTableIsSixStep :
    ∀ s ∈ ([0, 5] : List SectorWord), (phaseTable s).isSome = true ∧ s.toNat < 6 ∧ phaseTable s ≠ none ∧
      (phaseTable (BitVec.ofNat 3 ((s.toNat + 1) % 6))).isSome = true := by decide

/-- A step that goes on, one whose active words are no CFG words, and one outside the table. -/
theorem test_meets_StepRunsTheDecodedInstruction :
    (mid 3).params.Valid ∧ decode 0x37000005 = some (.apply 7 5) ∧
    (∃ t, exec (.apply 7 5) (mid 3).dropInput = .next t ∧ t.tick.channelWordsLegal = true) ∧
    (∃ t, exec (.apply 7 5) { mid 3 with activeCfg := ⟨0x01, 0x18, 0x1C⟩ }.dropInput = .next t ∧
      t.tick.channelWordsLegal = false) ∧
    (∃ r, exec (.apply 7 5) { mid 3 with sector := 6 }.dropInput = .fault r) :=
  ⟨by decide, by decide, ⟨_, rfl, by decide⟩, ⟨_, rfl, by decide⟩, ⟨_, rfl⟩⟩

/-- A clock that counts and one that wraps. -/
theorem test_meets_EveryClockTicks :
    configT.Valid ∧ (mid 3).nextInput.rst = false ∧ step (mid 3) = .next (after (mid 3)) ∧ (after (mid 3)).cnt = 4 ∧
    (mid 9).nextInput.rst = false ∧ step (mid 9) = .next (after (mid 9)) ∧ (after (mid 9)).cnt = 0 :=
  ⟨by decide, rfl, rfl, by decide, rfl, rfl, by decide⟩

theorem test_meets_CommitIsAtomic :
    (pending 2 10 (mid 9)).params.Valid ∧ (pending 2 10 (mid 9)).nextInput.rst = false ∧
    step (pending 2 10 (mid 9)) = .next (after (pending 2 10 (mid 9))) ∧
    (after (pending 2 10 (mid 9))).activeCfg ≠ (mid 9).activeCfg ∧
    (mid 9).cnt.toNat = (mid 9).params.period - 1 ∧ (mid 8).cnt.toNat ≠ (mid 8).params.period - 1 ∧
    step (pending 2 10 (mid 8)) = .next (after (pending 2 10 (mid 8))) :=
  ⟨by decide, by decide, rfl, by decide, by decide, by decide, rfl⟩

/-- The first and the last clock of a period, and the three kinds of command. -/
theorem test_meets_CommitLatency :
    ∀ x ∈ [(0#16, Instr.apply 5 7), (9#16, Instr.stop), (9#16, Instr.decode 900), (0#16, Instr.decode 1100)],
      let s := facing x.1 [encode x.2]
      s.Inv ∧ x.2.wellFormed = true ∧ s.nextInput = .command (encode x.2) ∧
      (∀ j, 1 ≤ j → j < s.params.period - s.cnt.toNat → (s.inputAt j).quiet = true) ∧
      ((∃ k d, x.2 = .apply k d) ∨ x.2 = .stop ∨
        (∃ w, x.2 = .decode w ∧ s.params.pMin ≤ w.toNat ∧ w.toNat ≤ s.params.pMax)) ∧
      ∃ s₁, exec x.2 s.dropInput = .next s₁ := by
  simp only [List.mem_cons, List.not_mem_nil, or_false, forall_eq_or_imp, forall_eq]
  refine ⟨⟨inv_of_test (by decide), by decide, rfl, fun j hj _ => quiet_past_the_end (Nat.le_refl 1) j hj, .inl ⟨_, _, rfl⟩, _, rfl⟩,
    ⟨inv_of_test (by decide), by decide, rfl, fun j hj _ => quiet_past_the_end (Nat.le_refl 1) j hj, by simp, _, rfl⟩,
    ⟨inv_of_test (by decide), by decide, rfl, fun j hj _ => quiet_past_the_end (Nat.le_refl 1) j hj,
      .inr (.inr ⟨_, rfl, by decide⟩), _, rfl⟩,
    ⟨inv_of_test (by decide), by decide, rfl, fun j hj _ => quiet_past_the_end (Nat.le_refl 1) j hj,
      .inr (.inr ⟨_, rfl, by decide⟩), _, rfl⟩⟩

/-- STOP and the two ends of the stop zone; one clock is enough at `cnt = 9`, ten are at `cnt = 0`. -/
theorem test_meets_StopOpensEverySwitch :
    ∀ x ∈ [(9#16, Instr.stop, 1), (0#16, Instr.decode 900, 10), (0#16, Instr.decode 1001, 1)],
      let s := facing x.1 [encode x.2.1]
      s.Inv ∧ s.nextInput = .command (encode x.2.1) ∧ 1 ≤ x.2.2 ∧
      (∀ j, 1 ≤ j → j < x.2.2 → (s.inputAt j).quiet = true) ∧
      (x.2.1 = .stop ∨
        (∃ w, x.2.1 = .decode w ∧ s.params.pMin ≤ w.toNat ∧ w.toNat ≤ s.params.pMax ∧ w.toNat < s.params.wStop)) := by
  simp only [List.mem_cons, List.not_mem_nil, or_false, forall_eq_or_imp, forall_eq]
  refine ⟨⟨inv_of_test (by decide), rfl, by decide, fun j hj _ => quiet_past_the_end (Nat.le_refl 1) j hj, by simp⟩,
    ⟨inv_of_test (by decide), rfl, by decide, fun j hj _ => quiet_past_the_end (Nat.le_refl 1) j hj, .inr ⟨_, rfl, by decide⟩⟩,
    ⟨inv_of_test (by decide), rfl, by decide, fun j hj _ => quiet_past_the_end (Nat.le_refl 1) j hj, .inr ⟨_, rfl, by decide⟩⟩⟩

theorem test_meets_StopThenApplyLeavesTheRow :
    let s := facing 8 [encode .stop, encode (.apply 5 65535)]
    s.Inv ∧ s.inputAt 0 = .command (encode .stop) ∧ s.inputAt 1 = .command (encode (.apply 5 65535)) ∧
    phaseTable 5 = some ⟨.float, .low, .high⟩ := ⟨inv_of_test (by decide), rfl, rfl, rfl⟩

theorem test_meets_SectorStepsAddUp :
    (facing 3 [0x10000000, 0x10000000]).Inv ∧
    (∀ j, j < 2 → (facing 3 [0x10000000, 0x10000000]).inputAt j = .command 0x10000000) ∧
    (facing 3 [0x20000000, 0x20000000]).Inv ∧
    (∀ j, j < 2 → (facing 3 [0x20000000, 0x20000000]).inputAt j = .command 0x20000000) :=
  ⟨inv_of_test (by decide), by decide, inv_of_test (by decide), by decide⟩

/-- Phase U at the wrap, 1 tick after the change (still dead) and 2 ticks after it. -/
theorem test_meets_DeadTimeIsExactlyDt :
    let s := mid 9
    let s₀ := after (mid 9)
    s.params.Valid ∧ s.nextInput.rst = false ∧ step s = .next s₀ ∧ s₀.dtReq.get .u ≠ s.dtReq.get .u ∧ s₀.NoReset 2 ∧
    (∀ j u, j ≤ 2 → clocks j s₀ = .next u → u.dtReq.get .u = s₀.dtReq.get .u) ∧
    clocks 1 s₀ = .next (after s₀) ∧ clocks 2 s₀ = .next (after (after s₀)) := by
  refine ⟨by decide, by decide, rfl, by decide, noReset_of_empty (by decide) 2, ?_, rfl, rfl⟩
  intro j u hj h
  interval_cases j <;> cases h <;> decide

/-- Low side to high side and high side to low side, in DT + 1 = 3 clocks. -/
theorem test_meets_DeadTimeSeparatesTheSwitches :
    (mid 9).Inv ∧ (mid 9).lowOn .u = true ∧
    clocks 3 (mid 9) = .next (after (after (after (mid 9)))) ∧ (after (after (after (mid 9)))).highOn .u = true ∧
    (mid 3).Inv ∧ (mid 3).highOn .u = true ∧
    clocks 3 (mid 3) = .next (after (after (after (mid 3)))) ∧ (after (after (after (mid 3)))).lowOn .u = true :=
  ⟨inv_of_test (by decide), by decide, rfl, by decide, inv_of_test (by decide), by decide, rfl, by decide⟩

theorem test_meets_NoShootThrough : (mid 3).Inv ∧ (mid 3).highOn .u = true := ⟨inv_of_test (by decide), by decide⟩

theorem test_meets_FloatPhaseIsOpen : (mid 3).Consistent ∧ (mid 3).activeCfg.get .w = 0x1C :=
  ⟨consistent_of_test (by decide), by decide⟩

/-- The first and the last tick of the period, for the least and the greatest compare value. -/
theorem test_meets_HighPhaseWaveform :
    ∀ c ∈ [1#16, 9#16], ∀ k ∈ [0, 9],
      let s := running 0 c 0 ⟨0, 2, 2⟩
      s.Consistent ∧ s.cnt = 0 ∧ s.activeCfg.get .u = 0x19 ∧ (s.dtSince.get .u).toNat = 0 ∧ 0 < s.ccrActive.toNat ∧
      s.ccrActive.toNat < s.params.period ∧ k < s.params.period ∧ s.NoReset k := by
  simp only [List.mem_cons, List.not_mem_nil, or_false, forall_eq_or_imp, forall_eq]
  refine ⟨⟨⟨consistent_of_test (by decide), by decide, by decide, by decide, by decide, by decide, by decide, noReset_of_empty rfl _⟩,
    ⟨consistent_of_test (by decide), by decide, by decide, by decide, by decide, by decide, by decide, noReset_of_empty rfl _⟩⟩,
    ⟨⟨consistent_of_test (by decide), by decide, by decide, by decide, by decide, by decide, by decide, noReset_of_empty rfl _⟩,
    ⟨consistent_of_test (by decide), by decide, by decide, by decide, by decide, by decide, by decide, noReset_of_empty rfl _⟩⟩⟩

/-- V is LOW and U is HIGH, at duty 0 and at full duty, DT ticks on and one tick before that. -/
theorem test_meets_SteadyPhasesConduct :
    ∀ c ∈ [0#16, 10#16], ∀ k ∈ [1, 2],
      let s := running 0 c 3 (.all 2)
      s.Consistent ∧ s.NoReset k ∧
      (∀ j u, j ≤ k → clocks j s = .next u → u.activeCfg = s.activeCfg ∧ u.ccrActive = s.ccrActive) ∧
      (∃ t, clocks k s = .next t) ∧ s.activeCfg.get .v = 0x18 ∧ s.activeCfg.get .u = 0x19 ∧
      (s.ccrActive = 0 ∨ s.ccrActive.toNat = s.params.period) := by
  simp only [List.mem_cons, List.not_mem_nil, or_false, forall_eq_or_imp, forall_eq]
  refine ⟨⟨⟨consistent_of_test (by decide), noReset_of_empty rfl _, ?_, ⟨_, rfl⟩, by decide, by decide, by decide⟩,
    ⟨consistent_of_test (by decide), noReset_of_empty rfl _, ?_, ⟨_, rfl⟩, by decide, by decide, by decide⟩⟩,
    ⟨⟨consistent_of_test (by decide), noReset_of_empty rfl _, ?_, ⟨_, rfl⟩, by decide, by decide, by decide⟩,
    ⟨consistent_of_test (by decide), noReset_of_empty rfl _, ?_, ⟨_, rfl⟩, by decide, by decide, by decide⟩⟩⟩ <;>
  · intro j u hj h
    interval_cases j <;> cases h <;> decide

/-- Row 1 to row 2: U enters FLOAT, V leaves it, W stays LOW. -/
theorem test_meets_CommutationCostsDeadTime :
    let s := pending 2 4 (running 1 4 9 (.all 2))
    s.Consistent ∧ step s = .next (after s) ∧ s.nextInput.rst = false ∧
    s.activeCfg = rowWords ⟨.high, .float, .low⟩ ∧ (after s).activeCfg = rowWords ⟨.float, .high, .low⟩ ∧
    0 < s.params.dt ∧ 1 < s.params.dt ∧ clocks 0 (after s) = .next (after s) ∧
    clocks 1 (after s) = .next (after (after s)) :=
  ⟨consistent_of_test (by decide), rfl, rfl, by decide, by decide, by decide, by decide, rfl, rfl⟩

theorem test_meets_LowPhaseKeepsConducting :
    let s := pending 2 4 (running 1 4 9 (.all 2))
    s.Consistent ∧ s.nextInput.rst = false ∧ step s = .next (after s) ∧ s.activeCfg.get .w = 0x18 ∧
    (after s).activeCfg.get .w = 0x18 ∧ s.lowOn .w = true :=
  ⟨consistent_of_test (by decide), rfl, rfl, by decide, by decide, by decide⟩

theorem test_meets_GateLayout :
    ((mid 3).drive .reset).nextInput.rst = true ∧ (mid 3).nextInput.rst = false := by decide

/-- An illegal clock, a rejecting one, and one that answers OK. -/
theorem test_meets_ResponseOfAClock :
    (∃ t, step (facing 3 [0x60000000]) = .next t) ∧ (∃ t, step (facing 3 [encode (.decode 1101)]) = .next t) ∧
    (∃ t, step (mid 3) = .next t) := ⟨⟨_, rfl⟩, ⟨_, rfl⟩, ⟨_, rfl⟩⟩

theorem test_meets_ResetStateIsRule240 :
    Params.configD.Valid ∧ configT.Valid ∧ resetT.params = configT ∧ step resetT = .next (after resetT) ∧
    (after resetT).activeCfg = resetT.activeCfg := ⟨by decide, by decide, rfl, rfl, by decide⟩

theorem test_meets_ResetClockGivesResetState :
    ((mid 3).drive ⟨true, true, 0x30000004⟩).params.Valid ∧
    ((mid 3).drive ⟨true, true, 0x30000004⟩).nextInput.rst = true := by decide

theorem test_meets_IllegalWordSetsErrOnly :
    decode 0x10000001 = none ∧ ∃ t, step ((mid 3).drive .idle) = .next t := ⟨by decide, _, rfl⟩

/-- An illegal clock, and a reset clock. -/
theorem test_meets_ErrIsSticky :
    (∃ t, step (facing 3 [0x10000001]) = .next t ∧ (facing 3 [0x10000001]).nextInput.rst = false) ∧
    (∃ t, step ((mid 3).drive .reset) = .next t ∧ ((mid 3).drive .reset).nextInput.rst = true) :=
  ⟨⟨_, rfl, rfl⟩, ⟨_, rfl, rfl⟩⟩

theorem test_meets_ClaimStepStopsOnIllegalWords :
    (facing 3 [0x10000001]).params.Valid ∧ (facing 3 [0x10000001]).nextInput.illegal = true ∧
    (facing 3 [0x10000000]).nextInput.illegal = false ∧ (facing 3 [0x10000000]).err = false ∧
    ∃ t, claimStep (facing 3 [0x10000000]) = .next t := ⟨by decide, by decide, by decide, by decide, _, rfl⟩

/-- A period of 0 breaks 00_scope.md R9. -/
theorem test_meets_BrokenConfigurationIsRefused :
    ¬({ configT with period := 0 } : Params).Valid ∧ configT.Valid := by decide

/-- Each kind of element changes in some clock. -/
theorem test_meets_WritersOfEachElement :
    (∀ w ∈ [0x10000000, encode (.apply 5 7), 0x10000001], step (facing 3 [w]) = .next (after (facing 3 [w]))) ∧
    (after (facing 3 [0x10000000])).sector ≠ (facing 3 [0x10000000]).sector ∧
    (after (facing 3 [encode (.apply 5 7)])).shadowCfg ≠ (mid 3).shadowCfg ∧
    (after (facing 3 [encode (.apply 5 7)])).duty ≠ (mid 3).duty ∧
    (after (facing 3 [0x10000001])).err ≠ (mid 3).err := by
  refine ⟨?_, by decide, by decide, by decide, by decide⟩
  simp only [List.mem_cons, List.not_mem_nil, or_false, forall_eq_or_imp, forall_eq]
  exact ⟨rfl, rfl, rfl⟩

theorem test_meets_ConfigurationNeverChanges : ∃ t, clocks 2 (mid 9) = .next t := ⟨_, rfl⟩

/-- A word for each row of the machine; the DECODE widths are the ends of each zone. -/
theorem test_meets_RunStateMachine :
    (mid 3).Inv ∧
    (∀ i ∈ [Instr.nop, .advance, .retreat, .apply 7 5, .stop, .decode 899, .decode 900, .decode 1001, .decode 1002,
        .decode 1100, .decode 1101], decode (encode i) = some i) ∧
    (∀ i ∈ [Instr.nop, .advance, .retreat, .apply 7 5, .stop, .decode 899, .decode 900, .decode 1001, .decode 1002,
        .decode 1100, .decode 1101],
      (facing 3 [encode i]).nextInput = .command (encode i) ∧
      (after (facing 3 [encode i])).cnt = 4) := ⟨inv_of_test (by decide), by decide, by decide⟩

theorem test_meets_RunStateMachine_step :
    (∃ t, step (facing 3 [encode (.apply 7 5)]) = .next t) ∧ (∃ t, step (facing 3 [0x60000000]) = .next t) ∧
    (∃ t, step (facing 3 [encode (.decode 1002)]) = .next t) ∧ (∃ t, step (facing 3 [encode (.decode 1001)]) = .next t) :=
  ⟨⟨_, rfl⟩, ⟨_, rfl⟩, ⟨_, rfl⟩, ⟨_, rfl⟩⟩

/-- Two states that differ in every hidden element, the shadow among them, and two that differ in all but the shadow. -/
theorem test_meets_HiddenStateDoesNotReachCommands :
    let s := facing 3 [encode (.decode 1005)]
    let s' : State := { s with
      cnt := 9, activeCfg := floatWords, ccrActive := 0, commitPending := true, dtReq := .all ⟨false, false⟩,
      dtSince := .all 1 }
    let s'' : State := { s' with shadowCfg := rowOf 3 }
    s ≠ s' ∧ s.shadowCfg = s'.shadowCfg ∧ s.shadowCfg ≠ s''.shadowCfg ∧ s.sector = s''.sector ∧ s.run = s''.run ∧
    s.duty = s''.duty ∧ s.err = s''.err ∧ s.params = s''.params ∧ s.inputs = s''.inputs ∧ step s = .next (after s) ∧
    step s' = .next (after s') ∧ step s'' = .next (after s'') :=
  ⟨by decide, rfl, by decide, rfl, rfl, rfl, rfl, rfl, rfl, rfl, rfl, rfl⟩

theorem test_meets_ThrottleDrivenHostStartsByDecode :
    let s := resetT.drive (.command (encode (.decode 1002)))
    step s = .next (after s) ∧ s.nextInput.rst = false ∧ s.nextInput.throttleDriven = true ∧ s.run = .stopped ∧
    (after s).run = .running ∧ (after s).sector ≠ s.sector :=
  ⟨rfl, rfl, by decide, rfl, by decide, by decide⟩

theorem test_meets_EveryClockKeepsRule35 : (mid 9).Inv ∧ step (mid 9) = .next (after (mid 9)) :=
  ⟨inv_of_test (by decide), rfl⟩

theorem test_meets_EveryClockKeepsConsistency :
    (pending 2 10 (mid 9)).Consistent ∧ step (pending 2 10 (mid 9)) = .next (after (pending 2 10 (mid 9))) :=
  ⟨consistent_of_test (by decide), rfl⟩

theorem test_meets_EveryClockCompletes : (facing 9 [0x60000000]).Inv := inv_of_test (by decide)

theorem test_meets_ResetIsConsistent : configT.Valid ∧ ({ configT with period := 65535, dt := 255 } : Params).Valid := by
  decide

theorem test_meets_ReachableStatesAreSafe :
    (after (after (resetT.drive (.command (encode (.apply 0 4)))))).Reachable :=
  ⟨configT, [.command (encode (.apply 0 4))], 2, by decide, rfl⟩

theorem test_meets_WaitCommitEnds : (pending 2 10 (mid 0)).Inv ∧ (pending 2 10 (mid 0)).commitPending = true :=
  ⟨inv_of_test (by decide), by decide⟩

/-- A run that goes on, one that faults, and one that is refused. -/
theorem test_meets_ClockFrequencyTakesNoPart :
    (∃ t, clocks 2 (facing 9 [0x10000000]) = .next t) ∧
    (∃ r, clocks 2 { facing 3 [0x37000000] with sector := 6 } = .fault r) ∧
    (∃ r, clocks 1 { mid 3 with params := { configT with period := 0 } } = .refused r) :=
  ⟨⟨_, rfl⟩, ⟨_, rfl⟩, ⟨_, rfl⟩⟩

end Sys2Proof.Tests
end

section
/-! Proofs about the whole machine: the invariants of 10_state.md R35 through every operation, command, tick and clock; what
runs keep; when a clock is refused; and the clock's name. -/

namespace Sys2Proof.Machine

/-! ### The shadow and the reset state -/

/-- The shadow is one whole table row or all FLOAT, by the invariants 2 and 3 of 10_state.md R35. -/
theorem State.Inv.shadow_whole {s : State} (h : s.Inv) : s.shadowCfg = floatWords ∨ IsRowWords s.shadowCfg := by
  cases hrun : s.run with
  | stopped => exact .inl (h.stopped hrun)
  | running => exact .inr (h.running hrun)

theorem floatWords_isCfg (p : Phase) : ChanWord.isCfg (floatWords.get p) = true := by simp [floatWords]

theorem IsRowWords.isCfg {c : PhaseTriple ChanWord} (h : IsRowWords c) (p : Phase) : ChanWord.isCfg (c.get p) = true := by
  obtain ⟨-, row, -, rfl⟩ := h
  simp

theorem resetWith_inv {p : Params} (hp : p.Valid) (host : List PortInput) :
    State.Inv { State.resetWith p with inputs := host } where
  params := hp
  sector := by simp
  cnt := Nat.lt_of_lt_of_le Nat.zero_lt_one hp.1.1
  duty := by simp
  ccr := by simp
  since := by simpa using fun _ => Nat.mod_le p.dt 256
  stopped := fun _ => rfl
  running := by simp
  shadowWords := floatWords_isCfg
  activeWords := floatWords_isCfg
  settled := fun _ => ⟨rfl, rfl⟩
  noBoth := by simp

/-- ResetState is consistent in every valid configuration, whatever the host drives (70_reset_and_hazards.md R240). -/
theorem resetWith_consistent {p : Params} (hp : p.Valid) (host : List PortInput) :
    State.Consistent { State.resetWith p with inputs := host } :=
  ⟨resetWith_inv hp host, .inl rfl,
    PhaseTriple.ext_get fun q => by
      rw [State.requests_get]
      simp only [State.resetWith_dtReq, State.resetWith_activeCfg, PhaseTriple.get_all]
      exact (channelRequest_float _ _).symm⟩

/-! ### Each operation keeps R35 -/

theorem State.Inv.setResp {s : State} (h : s.Inv) (r : Resp) : (s.setResp r).Inv := { h with }

theorem State.Inv.setErr {s : State} (h : s.Inv) : s.setErr.Inv := { h with }

theorem State.Inv.raiseIllegal {s : State} (h : s.Inv) : s.raiseIllegal.Inv := h.setErr.setResp .illegal

theorem State.Inv.dropInput {s : State} (h : s.Inv) : s.dropInput.Inv := { h with }

theorem State.Inv.setSector {s : State} (h : s.Inv) {v : SectorWord} (hv : v.toNat < 6) : (s.setSector v).Inv :=
  { h with sector := hv }

theorem State.Inv.setCnt {s : State} (h : s.Inv) {c : Half} (hc : c.toNat < s.params.period) : (s.setCnt c).Inv :=
  { h with cnt := hc }

/-- STOP, after a duty write or without one (`d` is then the duty itself): nothing is settled until its commit. -/
theorem State.Inv.stopMotor {s : State} (h : s.Inv) {d : Half} (hd : d.toNat ≤ s.params.period) :
    (s.setDuty d).stopMotor.Inv :=
  { h with
    duty := hd
    stopped := fun _ => rfl
    running := by simp
    shadowWords := floatWords_isCfg
    settled := by simp }

theorem State.Inv.driveRow {s : State} (h : s.Inv) {r : SectorWord} {row : PhaseTriple DriveIntent} {d : Half}
    (hrow : phaseTable r = some row) (hd : d.toNat ≤ s.params.period) : (s.driveRow row d).Inv :=
  { h with
    duty := hd
    stopped := by simp
    running := fun _ => ⟨r, row, hrow, rfl⟩
    shadowWords := by simp
    settled := by simp }

theorem State.Inv.commit {s : State} (h : s.Inv) : s.commit.Inv := by
  cases hp : s.commitPending with
  | false => rwa [State.commit_idle s hp]
  | true =>
    rw [State.commit_pending s hp]
    exact { h with ccr := h.duty, activeWords := h.shadowWords, settled := fun _ => ⟨rfl, rfl⟩ }

/-! ### The tick keeps R35 -/

theorem State.Inv.timeBase {s : State} (h : s.Inv) : s.timeBase.Inv := by
  unfold State.timeBase
  split
  · exact (h.setCnt (c := 0) (Nat.zero_lt_of_lt h.cnt)).commit
  · rename_i hu
    rw [State.atUpdate_iff] at hu
    have hcnt := h.cnt
    have hperiod := h.params.1.2
    have hnext : (s.cnt + 1).toNat = s.cnt.toNat + 1 := by
      rw [BitVec.toNat_add]
      exact Nat.mod_eq_of_lt (show s.cnt.toNat + 1 < 65536 by omega)
    exact h.setCnt (by omega)

/-- The channels' half of a tick: the dead-time counters saturate at DT, and no CFG word requests both switches. -/
theorem State.Inv.stepChannels {s : State} (h : s.Inv) : s.stepChannels.Inv :=
  { h with
    since := by
      intro p
      have hdt := h.params.2.1.2
      rw [State.stepChannels_dtSince, State.sinces_get, deadTimeSince_toNat hdt]
      split <;> simp
    noBoth := by
      intro p
      rw [State.stepChannels_dtReq, State.requests_get]
      exact channelRequest_noBoth (h.activeWords p) _ _ }

theorem State.Inv.tick {s : State} (h : s.Inv) : s.tick.Inv := h.timeBase.stepChannels

/-! ### Commands and clocks keep R35 -/

theorem saturateDuty_le (period : Nat) (d : Half) : (saturateDuty period d).toNat ≤ period := by simp

theorem prevSector_lt (s : SectorWord) : (prevSector s).toNat < 6 := by
  rw [prevSector_toNat]; omega

theorem State.Inv.of_exec {s t : State} (h : s.Inv) {i : Instr} (hx : exec i s = .next t) : t.Inv := by
  rcases exec_cases hx with ⟨-, rfl⟩ | ⟨-, rfl⟩ | ⟨-, rfl⟩ | ⟨_, _, _, -, hrow, rfl⟩ | ⟨-, rfl⟩ | ⟨_, -, -, rfl⟩ |
    ⟨_, -, -, rfl⟩ | ⟨_, _, -, -, hrow, rfl⟩
  · exact h.setResp .ok
  · exact (h.setSector (nextSector_lt _)).setResp .ok
  · exact (h.setSector (prevSector_lt _)).setResp .ok
  · exact h.driveRow hrow (saturateDuty_le _ _)
  · exact h.stopMotor h.duty
  · exact h.setResp .reject
  · exact h.stopMotor (Nat.zero_le _)
  · exact (h.setSector (sectorAfter_lt h.sector)).driveRow hrow (saturateDuty_le _ _)

theorem State.Inv.of_runCommand {s t : State} (h : s.Inv) {inp : PortInput} (hx : runCommand inp s = .next t) : t.Inv := by
  rcases runCommand_cases hx with ⟨-, rfl⟩ | ⟨-, i, -, he⟩ | ⟨-, -, rfl⟩
  · exact h.setResp .ok
  · exact h.of_exec he
  · exact h.raiseIllegal

theorem State.Inv.of_step {s t : State} (h : s.Inv) (hs : step s = .next t) : t.Inv := by
  obtain ⟨hv, ⟨-, rfl⟩ | ⟨-, u, hu, -, rfl⟩⟩ := step_cases hs
  · exact resetWith_inv hv _
  · exact (h.dropInput.of_runCommand hu).tick

/-! ### Beyond R35 -/

/-- The active words stay one whole row or all FLOAT: a tick keeps them or takes over the whole shadow. -/
theorem State.Inv.tick_whole {s : State} (h : s.Inv) (hw : s.activeCfg = floatWords ∨ IsRowWords s.activeCfg) :
    s.tick.activeCfg = floatWords ∨ IsRowWords s.tick.activeCfg := by
  by_cases hcnt : s.cnt.toNat = s.params.period - 1
  · cases hp : s.commitPending with
    | true => rw [(State.tick_commits hcnt hp).1]; exact h.shadow_whole
    | false => rwa [(State.tick_idle hp).1]
  · obtain ⟨-, -, hact, -⟩ := State.tick_between hcnt
    rwa [hact]

theorem State.Consistent.of_step {s t : State} (h : s.Consistent) (hs : step s = .next t) : t.Consistent := by
  obtain ⟨hv, ⟨-, rfl⟩ | ⟨-, u, hu, -, rfl⟩⟩ := step_cases hs
  · exact resetWith_consistent hv _
  · obtain ⟨hact, -⟩ := runCommand_frame hu
    have huInv : u.Inv := h.inv.dropInput.of_runCommand hu
    exact ⟨huInv.tick, huInv.tick_whole (by rw [hact]; exact h.whole), u.tick_requests⟩

/-! ### No shoot-through -/

/-- Guarantee (a) of 00_scope.md R2: a conducting switch is a requested one (41_channel_driver.md R128), and R35 has no pair
of requests for both. -/
theorem State.Inv.noShootThrough {s : State} (h : s.Inv) : s.noShootThrough := by
  rintro p ⟨hhigh, hlow⟩
  simp only [State.highOn, State.lowOn, Bool.and_eq_true] at hhigh hlow
  exact h.noBoth p ⟨hhigh.1, hlow.1⟩

/-! ### Every clock completes -/

theorem runCommand_completes {s : State} (hs : s.sector.toNat < 6) (inp : PortInput) :
    ∃ t, runCommand inp s = .next t := by
  unfold runCommand
  split
  · unfold execWord
    split
    · rename_i hi; exact exec_completes (decode_wellFormed hi) hs
    · exact ⟨_, rfl⟩
  · exact ⟨_, rfl⟩

theorem State.Inv.step_completes {s : State} (h : s.Inv) : ∃ t, step s = .next t := by
  cases hr : s.nextInput.rst with
  | true => exact ⟨_, step_reset h.params hr⟩
  | false =>
    obtain ⟨u, hu⟩ := runCommand_completes h.dropInput.sector s.nextInput
    have hwords := (h.dropInput.of_runCommand hu).tick.activeWords
    exact ⟨_, step_of_runCommand h.params hr hu ((State.channelWordsLegal_iff _).mpr hwords)⟩

/-! ### Runs -/

/-- What every clock keeps, every run keeps. -/
theorem clocks_keep {P : State → Prop} (hstep : ∀ {s t : State}, P s → step s = .next t → P t) {n : Nat} {s t : State}
    (hs : P s) (h : clocks n s = .next t) : P t := by
  induction n generalizing s with
  | zero => simp at h; rwa [← h]
  | succ n ih =>
    obtain ⟨u, hu, ht⟩ := clocks_succ_next.mp h
    exact ih (hstep hs hu) ht

theorem State.Consistent.of_clocks {n : Nat} {s t : State} (h : s.Consistent) (hn : clocks n s = .next t) : t.Consistent :=
  clocks_keep State.Consistent.of_step h hn

theorem State.Reachable.consistent {s : State} (h : s.Reachable) : s.Consistent := by
  obtain ⟨p, host, n, hp, hn⟩ := h
  exact (resetWith_consistent hp host).of_clocks hn

theorem clocks_params {n : Nat} {s t : State} (h : clocks n s = .next t) : t.params = s.params :=
  clocks_keep (P := fun u => u.params = s.params) (fun hu hs => (step_params hs).trans hu) rfl h

/-! ### Refusals -/

theorem step_of_not_valid {s : State} (h : ¬s.params.Valid) : step s = .refused .brokenConfiguration := by
  simp only [step, clock, if_neg h]

theorem andThen_not_refused {o : Host.Outcome State Fault Refusal} {f : State → Host.Outcome State Fault Refusal}
    {r : Refusal} (ho : o ≠ .refused r) (hf : ∀ s, f s ≠ .refused r) : andThen o f ≠ .refused r := by
  cases o with
  | next s => exact hf s
  | fault e => simp
  | refused e => exact ho

theorem runCommand_not_refused (inp : PortInput) (s : State) (r : Refusal) : runCommand inp s ≠ .refused r := by
  unfold runCommand
  split
  · unfold execWord
    split
    · exact exec_not_refused _ s r
    · simp
  · exact exec_not_refused .nop s r

theorem finishClock_not_refused (s : State) (r : Refusal) : finishClock s ≠ .refused r := by
  unfold finishClock
  split <;> simp

theorem step_not_refused {s : State} (h : s.params.Valid) (r : Refusal) : step s ≠ .refused r := by
  simp only [step, clock, if_pos h, clockWith]
  split
  · simp
  · exact andThen_not_refused (runCommand_not_refused _ _ r) (finishClock_not_refused · r)

/-! ### The name of the clock -/

theorem fClk_pos (p : Params) : 0 < p.fClk :=
  NNReal.coe_pos.mpr (pos_iff_ne_zero.mpr (Config.frequency p.clk).ne_zero)

/-- An outcome with the next state, where there is one, built with the clock `c`. -/
def outcomeOnClock (c : Nat) : Host.Outcome State Fault Refusal → Host.Outcome State Fault Refusal
  | .next t => .next (t.onClock c)
  | .fault r => .fault r
  | .refused r => .refused r

/-- What runs on a state does the same, but for the name of the clock, when the block is built with another clock. -/
def IgnoresClock (f : State → Host.Outcome State Fault Refusal) : Prop :=
  ∀ (c : Nat) (s : State), f (s.onClock c) = outcomeOnClock c (f s)

theorem IgnoresClock.andThen {f g : State → Host.Outcome State Fault Refusal} (hf : IgnoresClock f) (hg : IgnoresClock g) :
    IgnoresClock (fun s => andThen (f s) g) := by
  intro c s
  simp only [hf c s]
  cases f s with
  | next t => exact hg c t
  | fault r => rfl
  | refused r => rfl

theorem applyRow_ignoresClock (k : SectorWord) (d : Half) : IgnoresClock (applyRow k d) := by
  intro c s
  cases hrow : phaseTable (selectSector k s.sector) with
  | some row => rw [applyRow_some hrow, applyRow_some (s := s.onClock c) hrow]; rfl
  | none => simp [applyRow, hrow, outcomeOnClock]

theorem runThrottle_ignoresClock (d : Half) : IgnoresClock (runThrottle d) := by
  intro c s
  cases hrow : phaseTable (appliedSector s.params s.sector) with
  | some row => rw [runThrottle_some hrow, runThrottle_some (s := s.onClock c) hrow]; rfl
  | none => rw [runThrottle_none hrow, runThrottle_none (s := s.onClock c) hrow]; rfl

theorem execDecode_ignoresClock (w : Half) : IgnoresClock (execDecode w) := by
  intro c s
  have hdec : throttle (s.onClock c).params w = throttle s.params w := rfl
  unfold execDecode
  rw [hdec]
  cases throttle s.params w with
  | reject => rfl
  | stopped => rfl
  | running d => exact runThrottle_ignoresClock d c s

theorem exec_ignoresClock (i : Instr) : IgnoresClock (exec i) := by
  cases i with
  | nop => intro c s; rfl
  | advance => intro c s; rfl
  | retreat => intro c s; rfl
  | apply k d => exact applyRow_ignoresClock k d
  | stop => intro c s; rfl
  | decode w => exact execDecode_ignoresClock w

theorem runCommand_ignoresClock (inp : PortInput) : IgnoresClock (runCommand inp) := by
  intro c s
  unfold runCommand
  split
  · unfold execWord
    split
    · exact exec_ignoresClock _ c s
    · rfl
  · rfl

theorem State.onClock_commit (c : Nat) (s : State) : (s.onClock c).commit = s.commit.onClock c := by
  cases hp : s.commitPending with
  | false => rw [State.commit_idle s hp, State.commit_idle (s.onClock c) hp]
  | true => rw [State.commit_pending s hp, State.commit_pending (s.onClock c) hp]; rfl

theorem State.onClock_timeBase (c : Nat) (s : State) : (s.onClock c).timeBase = s.timeBase.onClock c := by
  have hu : (s.onClock c).atUpdate = s.atUpdate := rfl
  unfold State.timeBase
  rw [hu]
  split
  · exact State.onClock_commit c (s.setCnt 0)
  · rfl

theorem State.onClock_tick (c : Nat) (s : State) : (s.onClock c).tick = s.tick.onClock c := by
  unfold State.tick
  rw [State.onClock_timeBase]
  rfl

theorem finishClock_ignoresClock : IgnoresClock finishClock := by
  intro c s
  have hwords : (s.tick.onClock c).channelWordsLegal = s.tick.channelWordsLegal := rfl
  unfold finishClock
  rw [State.onClock_tick, hwords]
  split <;> rfl

theorem clockWith_ignoresClock (inp : PortInput) : IgnoresClock (clockWith inp) := by
  intro c s
  unfold clockWith
  split
  · rfl
  · exact (runCommand_ignoresClock inp).andThen finishClock_ignoresClock c s

theorem step_ignoresClock : IgnoresClock step := by
  intro c s
  have hvalid : (s.onClock c).params.Valid ↔ s.params.Valid := Iff.rfl
  by_cases hv : s.params.Valid
  · simp only [step, clock, if_pos hv, if_pos (hvalid.mpr hv)]
    exact clockWith_ignoresClock s.nextInput c s.dropInput
  · rw [step_of_not_valid hv, step_of_not_valid (mt hvalid.mp hv)]
    rfl

theorem clocks_ignoreClock (n : Nat) : IgnoresClock (clocks n) := by
  induction n with
  | zero => intro c s; rfl
  | succ n ih =>
    intro c s
    rw [clocks_succ, clocks_succ]
    exact step_ignoresClock.andThen ih c s

end Sys2Proof.Machine

/-! ### The statements of 00_scope.md -/

namespace Sys2Proof

open Sys2Proof.Machine

/-- Settles O31, by invariant 6 of R35: no phase requests both switches, and only a requested switch conducts. -/
theorem noShootThrough : Obligations.NoShootThrough := fun _ h => h.noShootThrough

/-- Settles O48: the clock keeps the record (`step_params`), so a run of any length does. -/
theorem configurationNeverChanges : Obligations.ConfigurationNeverChanges := fun _ _ _ h => clocks_params h

/-- Settles O56: ResetState is consistent and every clock keeps that; a consistent state is safe and completes its clock. -/
theorem reachableStatesAreSafe : Obligations.ReachableStatesAreSafe := by
  intro s hs
  have hc := hs.consistent
  exact ⟨hc, hc.inv.noShootThrough, hc.inv.step_completes⟩

/-- Settles O58: a positive frequency by its type, and every part of a clock ignores the clock's name. -/
theorem clockFrequencyTakesNoPart : Obligations.ClockFrequencyTakesNoPart := by
  refine ⟨fClk_pos, fun n c s => ?_⟩
  rw [clocks_ignoreClock n c s]
  refine ⟨fun t h => ?_, fun r h => ?_, fun r h => ?_⟩ <;> rw [h] <;> rfl

/-- Settles O46: the refusal of a clock is decided by R9 alone. -/
theorem brokenConfigurationIsRefused : Obligations.BrokenConfigurationIsRefused :=
  fun _ => ⟨step_of_not_valid, step_not_refused⟩

end Sys2Proof
end

section
/-! Proofs about the state (10_state.md): the ports bit by bit, the response of a clock, which commands write which
element, and what the hidden elements have no part in. -/

namespace Sys2Proof.Machine

/-! ### The ports -/

theorem RunState.bit_eq_true_iff (r : RunState) : r.bit = true ↔ r = .running := by cases r <;> simp [RunState.bit]

theorem State.status_sector (s : State) : s.status.extractLsb' 0 3 = s.sector := by
  apply BitVec.eq_of_getLsbD_eq
  intro i hi
  simp [State.status_getLsbD, hi]

theorem State.status_zero (s : State) : s.status.extractLsb' 6 10 = 0 := by
  apply BitVec.eq_of_getLsbD_eq
  intro i hi
  rw [BitVec.getLsbD_extractLsb', State.status_getLsbD, if_neg (by omega), if_neg (by omega), if_neg (by omega),
    if_neg (by omega), if_pos (by omega)]
  simp

theorem State.status_duty (s : State) : s.status.extractLsb' 16 16 = s.duty := by
  apply BitVec.eq_of_getLsbD_eq
  intro i hi
  rw [BitVec.getLsbD_extractLsb', State.status_getLsbD, if_neg (by omega), if_neg (by omega), if_neg (by omega),
    if_neg (by omega), if_neg (by omega)]
  simp [hi]

theorem State.actcfg_u (s : State) : s.actcfg.extractLsb' 0 5 = s.activeCfg.u := by
  apply BitVec.eq_of_getLsbD_eq
  intro i hi
  simp [State.actcfg_getLsbD, hi]

theorem State.actcfg_v (s : State) : s.actcfg.extractLsb' 5 5 = s.activeCfg.v := by
  apply BitVec.eq_of_getLsbD_eq
  intro i hi
  have h10 : 5 + i < 10 := by omega
  simp [State.actcfg_getLsbD, hi, h10]

theorem State.actcfg_w (s : State) : s.actcfg.extractLsb' 10 5 = s.activeCfg.w := by
  apply BitVec.eq_of_getLsbD_eq
  intro i hi
  rw [BitVec.getLsbD_extractLsb', State.actcfg_getLsbD, if_neg (by omega), if_neg (by omega)]
  simp [hi]

/-- GATE is a function of the dead-time state (10_state.md R39). -/
theorem State.gate_congr {s t : State} (hreq : t.dtReq = s.dtReq) (hsince : t.dtSince = s.dtSince)
    (hparams : t.params = s.params) : t.gate = s.gate := by
  simp only [State.gate, State.highOn, State.lowOn, hreq, hsince, hparams]

/-- ACTCFG is a function of the active words (10_state.md R40). -/
theorem State.actcfg_congr {s t : State} (h : t.activeCfg = s.activeCfg) : t.actcfg = s.actcfg := by
  simp only [State.actcfg, h]

/-! ### The response of a clock -/

theorem Resp.code_ne_three (r : Resp) : r.code ≠ 3 := by cases r <;> decide

theorem implausible_eq_false_iff (p : Params) (w : Half) :
    implausible p w = false ↔ p.pMin ≤ w.toNat ∧ w.toNat ≤ p.pMax := by
  simp [implausible]

theorem wordResp_of_decode {p : Params} {cmd : Word} {w : Half} (h : decode cmd = some (.decode w)) :
    wordResp p cmd = if implausible p w then .reject else .ok := by
  simp only [wordResp, h]

/-- Every command but DECODE answers OK (60_exceptions.md R220). -/
theorem wordResp_of_not_decode {p : Params} {cmd : Word} {i : Instr} (h : decode cmd = some i)
    (hi : ∀ w, i ≠ .decode w) : wordResp p cmd = .ok := by
  simp only [wordResp, h]
  cases i with
  | decode w => exact absurd rfl (hi w)
  | nop | advance | retreat | apply _ _ | stop => rfl

theorem wordResp_of_illegal {p : Params} {cmd : Word} (h : decode cmd = none) : wordResp p cmd = .illegal := by
  simp only [wordResp, h]

theorem wordResp_eq_illegal_iff (p : Params) (cmd : Word) : wordResp p cmd = .illegal ↔ decode cmd = none := by
  cases hd : decode cmd with
  | none => simp [wordResp_of_illegal hd]
  | some i =>
    by_cases hi : ∃ w, i = .decode w
    · obtain ⟨w, rfl⟩ := hi
      cases hw : implausible p w <;> simp [wordResp_of_decode hd, hw]
    · simp [wordResp_of_not_decode hd (not_exists.mp hi)]

theorem wordResp_eq_reject_iff (p : Params) (cmd : Word) :
    wordResp p cmd = .reject ↔ ∃ w, decode cmd = some (.decode w) ∧ (w.toNat < p.pMin ∨ p.pMax < w.toNat) := by
  cases hd : decode cmd with
  | none => simp [wordResp_of_illegal hd]
  | some i =>
    by_cases hi : ∃ w, i = .decode w
    · obtain ⟨w, rfl⟩ := hi
      cases hw : implausible p w <;> simp [wordResp_of_decode hd, hw, ← implausible_iff]
    · rw [not_exists] at hi
      simp [wordResp_of_not_decode hd hi, hi]

theorem State.respPort_eq_illegal_iff (s : State) :
    s.respPort = .illegal ↔
      s.nextInput.rst = false ∧ s.nextInput.cmdValid = true ∧ decode s.nextInput.cmd = none := by
  unfold State.respPort
  cases s.nextInput.rst <;> cases s.nextInput.cmdValid <;> simp [wordResp_eq_illegal_iff]

theorem State.respPort_eq_reject_iff (s : State) :
    s.respPort = .reject ↔
      s.nextInput.rst = false ∧ s.nextInput.cmdValid = true ∧
        ∃ w, decode s.nextInput.cmd = some (.decode w) ∧ (w.toNat < s.params.pMin ∨ s.params.pMax < w.toNat) := by
  unfold State.respPort
  cases s.nextInput.rst <;> cases s.nextInput.cmdValid <;> simp [wordResp_eq_reject_iff]

/-- A command's response depends on its word and the configuration alone (60_exceptions.md R220, R224). -/
theorem exec_resp {cmd : Word} {i : Instr} {s t : State} (hd : decode cmd = some i) (hx : exec i s = .next t) :
    t.resp = wordResp s.params cmd := by
  rcases exec_cases hx with ⟨rfl, rfl⟩ | ⟨rfl, rfl⟩ | ⟨rfl, rfl⟩ | ⟨_, _, _, rfl, -, rfl⟩ | ⟨rfl, rfl⟩ |
    ⟨w, rfl, hw, rfl⟩ | ⟨w, rfl, ⟨hmin, hmax, -⟩, rfl⟩ | ⟨w, _, rfl, ⟨hmin, hmax, -⟩, -, rfl⟩
  · simp [wordResp_of_not_decode hd]
  · simp [wordResp_of_not_decode hd]
  · simp [wordResp_of_not_decode hd]
  · simp [wordResp_of_not_decode hd]
  · simp [wordResp_of_not_decode hd]
  · simp [wordResp_of_decode hd, (implausible_iff _ w).mpr hw]
  · simp [wordResp_of_decode hd, (implausible_eq_false_iff _ w).mpr ⟨hmin, hmax⟩]
  · simp [wordResp_of_decode hd, (implausible_eq_false_iff _ w).mpr ⟨hmin, hmax⟩]

/-- The recorded RESP is the port's (10_state.md R38). -/
theorem step_resp {s t : State} (h : step s = .next t) : t.resp = s.respPort := by
  obtain ⟨-, ⟨hr, rfl⟩ | ⟨hr, u, hu, -, rfl⟩⟩ := step_cases h
  · simp [State.respPort, hr]
  · rcases runCommand_cases hu with ⟨hv, rfl⟩ | ⟨hv, i, hd, hx⟩ | ⟨hv, hd, rfl⟩
    · simp [State.respPort, hr, hv]
    · simp [State.respPort, hr, hv, exec_resp hd hx]
    · simp [State.respPort, hr, hv, wordResp_of_illegal hd]

/-! ### Which commands write which element -/

theorem PortInput.illegal_iff (inp : PortInput) :
    inp.illegal = true ↔ inp.rst = false ∧ inp.cmdValid = true ∧ decode inp.cmd = none := by
  simp [PortInput.illegal, and_assoc]

/-- A clock without reset executes a command, idles, or answers an illegal word, each with one tick (20_memory.md R52,
60_exceptions.md R221). -/
theorem step_command_cases {s t : State} (h : step s = .next t) (hr : s.nextInput.rst = false) :
    (s.nextInput.illegal = false ∧ s.nextInput.cmdValid = true ∧
      ∃ i u, decode s.nextInput.cmd = some i ∧ exec i s.dropInput = .next u ∧ t = u.tick) ∨
    (s.nextInput.illegal = false ∧ t = (s.dropInput.setResp .ok).tick) ∨
    (s.nextInput.illegal = true ∧ t = s.dropInput.raiseIllegal.tick) := by
  obtain ⟨-, ⟨hr', -⟩ | ⟨-, u, hu, -, rfl⟩⟩ := step_cases h
  · simp [hr] at hr'
  · rcases runCommand_cases hu with ⟨hv, rfl⟩ | ⟨hv, i, hd, hx⟩ | ⟨hv, hd, rfl⟩
    · exact .inr (.inl ⟨by simp [PortInput.illegal, hv], rfl⟩)
    · exact .inl ⟨by simp [PortInput.illegal, hd], hv, i, u, hd, hx, rfl⟩
    · exact .inr (.inr ⟨(PortInput.illegal_iff _).mpr ⟨hr, hv, hd⟩, rfl⟩)

/-- The sector is written by ADVANCE, RETREAT and a running DECODE that advances (10_state.md R23). -/
theorem exec_sector_writers {i : Instr} {s t : State} (h : exec i s = .next t) :
    t.sector = s.sector ∨ i = .advance ∨ i = .retreat ∨
      ∃ w, i = .decode w ∧ s.params.advanceOnDecode = true ∧ s.params.wStop ≤ w.toNat ∧ w.toNat ≤ s.params.pMax := by
  rcases exec_cases h with ⟨-, rfl⟩ | ⟨rfl, -⟩ | ⟨rfl, -⟩ | ⟨_, _, _, -, -, rfl⟩ | ⟨-, rfl⟩ | ⟨_, -, -, rfl⟩ |
    ⟨_, -, -, rfl⟩ | ⟨w, _, rfl, ⟨-, hmax, hstop⟩, -, rfl⟩
  · exact .inl rfl
  · exact .inr (.inl rfl)
  · exact .inr (.inr (.inl rfl))
  · exact .inl rfl
  · exact .inl rfl
  · exact .inl rfl
  · exact .inl rfl
  · cases hadv : s.params.advanceOnDecode with
    | false => exact .inl (by simp [sectorAfter, hadv])
    | true => exact .inr (.inr (.inr ⟨w, rfl, rfl, hstop, hmax⟩))

/-- The run flag, the shadow, the commit request and the duty are written by APPLY, STOP and a DECODE that is not
rejected (10_state.md R24 to R27). -/
theorem exec_shadow_writers {i : Instr} {s t : State} (h : exec i s = .next t) :
    (t.run = s.run ∧ t.shadowCfg = s.shadowCfg ∧ t.commitPending = s.commitPending ∧ t.duty = s.duty) ∨
      (∃ k d, i = .apply k d) ∨ i = .stop ∨
      ∃ w, i = .decode w ∧ s.params.pMin ≤ w.toNat ∧ w.toNat ≤ s.params.pMax := by
  rcases exec_cases h with ⟨-, rfl⟩ | ⟨-, rfl⟩ | ⟨-, rfl⟩ | ⟨k, d, _, rfl, -⟩ | ⟨rfl, -⟩ | ⟨_, -, -, rfl⟩ |
    ⟨w, rfl, ⟨hmin, hmax, -⟩, -⟩ | ⟨w, _, rfl, ⟨hmin, hmax, -⟩, -⟩
  · exact .inl ⟨rfl, rfl, rfl, rfl⟩
  · exact .inl ⟨rfl, rfl, rfl, rfl⟩
  · exact .inl ⟨rfl, rfl, rfl, rfl⟩
  · exact .inr (.inl ⟨k, d, rfl⟩)
  · exact .inr (.inr (.inl rfl))
  · exact .inl ⟨rfl, rfl, rfl, rfl⟩
  · exact .inr (.inr (.inr ⟨w, rfl, hmin, hmax⟩))
  · exact .inr (.inr (.inr ⟨w, rfl, hmin, hmax⟩))

/-- STOP alone of those writers leaves the duty (10_state.md R25). -/
theorem exec_duty_writers {i : Instr} {s t : State} (h : exec i s = .next t) :
    t.duty = s.duty ∨ (∃ k d, i = .apply k d) ∨
      ∃ w, i = .decode w ∧ s.params.pMin ≤ w.toNat ∧ w.toNat ≤ s.params.pMax := by
  rcases exec_shadow_writers h with ⟨-, -, -, hduty⟩ | happly | rfl | hdecode
  · exact .inl hduty
  · exact .inr (.inl happly)
  · rw [exec, execStop, Host.Outcome.next.injEq] at h
    exact .inl (by simp [← h])
  · exact .inr (.inr hdecode)

/-- A tick requests no commit. -/
theorem State.tick_commitPending_imp {s : State} (h : s.tick.commitPending = true) : s.commitPending = true := by
  by_cases hcnt : s.cnt.toNat = s.params.period - 1
  · simp [(State.tick_at_update hcnt).2] at h
  · obtain ⟨-, hpend, -⟩ := State.tick_between hcnt
    rwa [← hpend]

/-- A tick writes neither the run flag nor the shadow and requests no commit. -/
theorem State.tick_writes_no_shadow {s u : State} (hrun : u.run = s.run) (hshadow : u.shadowCfg = s.shadowCfg)
    (hpend : u.commitPending = s.commitPending) :
    ¬(u.tick.run ≠ s.run ∨ u.tick.shadowCfg ≠ s.shadowCfg ∨
      (s.commitPending = false ∧ u.tick.commitPending = true)) := by
  rintro (hne | hne | ⟨hidle, hnew⟩)
  · exact hne (by simp [hrun])
  · exact hne (by simp [hshadow])
  · simp [← hpend, State.tick_commitPending_imp hnew] at hidle

/-- `err` after a clock without reset (10_state.md R33). -/
theorem step_err {s t : State} (h : step s = .next t) (hr : s.nextInput.rst = false) :
    t.err = (s.err || s.nextInput.illegal) := by
  rcases step_command_cases h hr with ⟨hill, -, i, u, -, hx, rfl⟩ | ⟨hill, rfl⟩ | ⟨hill, rfl⟩
  · obtain ⟨-, -, -, -, -, herr, -⟩ := exec_frame hx
    simp [hill, herr]
  · simp [hill]
  · simp [hill]

/-! ### The three cases of DECODE (43_throttle.md R185) -/

theorem exec_decode_reject {s : State} {w : Half} (hw : w.toNat < s.params.pMin ∨ s.params.pMax < w.toNat) :
    exec (.decode w) s = .next (s.setResp .reject) := by
  simp only [exec, execDecode, throttle_reject hw]

theorem exec_decode_stopped {s : State} {w : Half} (hmin : s.params.pMin ≤ w.toNat) (hmax : w.toNat ≤ s.params.pMax)
    (hstop : w.toNat < s.params.wStop) : exec (.decode w) s = .next (s.setDuty 0).stopMotor := by
  simp only [exec, execDecode, throttle_stopped hmin hmax hstop]

theorem exec_decode_running {s : State} {w : Half} (hmin : s.params.pMin ≤ w.toNat) (hmax : w.toNat ≤ s.params.pMax)
    (hstop : s.params.wStop ≤ w.toNat) :
    exec (.decode w) s = runThrottle (BitVec.ofNat 16 ((clampWidth s.params w - s.params.wMin) * s.params.k)) s := by
  simp only [exec, execDecode, throttle_running hmin hmax hstop]

/-! ### What the hidden elements have no part in -/

/-- The states agree on what commands read, and on the shadow where `P` holds (10_state.md R42). -/
structure State.SeenAgree (P : Prop) (s s' : State) : Prop where
  sector : s.sector = s'.sector
  run : s.run = s'.run
  duty : s.duty = s'.duty
  err : s.err = s'.err
  params : s.params = s'.params
  inputs : s.inputs = s'.inputs
  shadow : P → s.shadowCfg = s'.shadowCfg

variable {P : Prop} {s s' : State}

theorem State.SeenAgree.setResp (h : SeenAgree P s s') (r : Resp) : SeenAgree P (s.setResp r) (s'.setResp r) :=
  { h with }

theorem State.SeenAgree.raiseIllegal (h : SeenAgree P s s') : SeenAgree P s.raiseIllegal s'.raiseIllegal :=
  { h with err := rfl }

theorem State.SeenAgree.dropInput (h : SeenAgree P s s') : SeenAgree P s.dropInput s'.dropInput :=
  { h with inputs := congrArg List.tail h.inputs }

theorem State.SeenAgree.setSector (h : SeenAgree P s s') (v : SectorWord) :
    SeenAgree P (s.setSector v) (s'.setSector v) := { h with sector := rfl }

theorem State.SeenAgree.setDuty (h : SeenAgree P s s') (d : Half) : SeenAgree P (s.setDuty d) (s'.setDuty d) :=
  { h with duty := rfl }

theorem State.SeenAgree.stopMotor (h : SeenAgree P s s') : SeenAgree P s.stopMotor s'.stopMotor :=
  { h with run := rfl, shadow := fun _ => rfl }

theorem State.SeenAgree.driveRow (h : SeenAgree P s s') (row : PhaseTriple DriveIntent) (d : Half) :
    SeenAgree P (s.driveRow row d) (s'.driveRow row d) :=
  { h with run := rfl, duty := rfl, shadow := fun _ => rfl }

theorem State.SeenAgree.tick (h : SeenAgree P s s') : SeenAgree P s.tick s'.tick where
  sector := by simpa using h.sector
  run := by simpa using h.run
  duty := by simpa using h.duty
  err := by simpa using h.err
  params := by simpa using h.params
  inputs := by simpa using h.inputs
  shadow := by simpa using h.shadow

theorem State.SeenAgree.resetClock (h : SeenAgree P s s') : SeenAgree P s.resetClock s'.resetClock where
  sector := rfl
  run := rfl
  duty := rfl
  err := rfl
  params := h.params
  inputs := h.inputs
  shadow := fun _ => rfl

theorem State.SeenAgree.nextInput (h : SeenAgree P s s') : s.nextInput = s'.nextInput := by
  simp only [State.nextInput, h.inputs]

/-- A command does the same in states that agree on what commands read (10_state.md R42). -/
theorem State.SeenAgree.of_exec (h : SeenAgree P s s') {i : Instr} {t : State} (hx : exec i s = .next t) :
    ∃ t', exec i s' = .next t' ∧ SeenAgree P t t' := by
  rcases exec_cases hx with ⟨rfl, rfl⟩ | ⟨rfl, rfl⟩ | ⟨rfl, rfl⟩ | ⟨k, d, row, rfl, hrow, rfl⟩ | ⟨rfl, rfl⟩ |
    ⟨w, rfl, hw, rfl⟩ | ⟨w, rfl, ⟨hmin, hmax, hstop⟩, rfl⟩ | ⟨w, row, rfl, ⟨hmin, hmax, hstop⟩, hrow, rfl⟩
  · exact ⟨_, rfl, h.setResp .ok⟩
  · refine ⟨_, rfl, ?_⟩
    rw [State.advanceSector, h.sector]
    exact (h.setSector _).setResp .ok
  · refine ⟨_, rfl, ?_⟩
    rw [State.retreatSector, h.sector]
    exact (h.setSector _).setResp .ok
  · rw [h.sector] at hrow
    rw [h.params]
    exact ⟨_, applyRow_some hrow, h.driveRow row _⟩
  · exact ⟨_, rfl, h.stopMotor⟩
  · rw [h.params] at hw
    exact ⟨_, exec_decode_reject hw, h.setResp .reject⟩
  · rw [h.params] at hmin hmax hstop
    exact ⟨_, exec_decode_stopped hmin hmax hstop, (h.setDuty 0).stopMotor⟩
  · rw [h.params] at hmin hmax hstop
    rw [h.params, h.sector] at hrow ⊢
    exact ⟨_, (exec_decode_running hmin hmax hstop).trans (runThrottle_some hrow), (h.setSector _).driveRow row _⟩

theorem State.SeenAgree.of_runCommand (h : SeenAgree P s s') {inp : PortInput} {t : State}
    (hx : runCommand inp s = .next t) : ∃ t', runCommand inp s' = .next t' ∧ SeenAgree P t t' := by
  rcases runCommand_cases hx with ⟨hv, rfl⟩ | ⟨hv, i, hd, he⟩ | ⟨hv, hd, rfl⟩
  · exact ⟨_, by simp only [runCommand, hv]; rfl, h.setResp .ok⟩
  · obtain ⟨t', he', ht'⟩ := h.of_exec he
    exact ⟨t', by simp only [runCommand, hv, execWord, hd, he', if_true], ht'⟩
  · exact ⟨_, by simp only [runCommand, hv, execWord, hd, if_true], h.raiseIllegal⟩

theorem State.SeenAgree.of_step (h : SeenAgree P s s') {t t' : State} (hs : step s = .next t)
    (hs' : step s' = .next t') : SeenAgree P t t' := by
  obtain ⟨-, ⟨hr, rfl⟩ | ⟨hr, u, hu, -, rfl⟩⟩ := step_cases hs <;>
    obtain ⟨-, ⟨hr', rfl⟩ | ⟨hr', u', hu', -, rfl⟩⟩ := step_cases hs' <;>
    rw [← h.nextInput] at hr'
  · exact h.dropInput.resetClock
  · simp [hr] at hr'
  · simp [hr] at hr'
  · obtain ⟨v, hv, huv⟩ := h.dropInput.of_runCommand hu
    rw [← h.nextInput, hv, Host.Outcome.next.injEq] at hu'
    exact hu' ▸ huv.tick

end Sys2Proof.Machine

namespace Sys2Proof

open Sys2Proof.Machine

/-- Settles O53: each operation of a clock keeps R35. -/
theorem everyClockKeepsRule35 : Obligations.EveryClockKeepsRule35 := fun _ _ h hs => h.of_step hs

/-- Settles O54: a tick keeps the active words or takes over the whole shadow, and computes the request pairs anew. -/
theorem everyClockKeepsConsistency : Obligations.EveryClockKeepsConsistency := fun _ _ h hs => h.of_step hs

/-- Settles O55: a command completes in a sector of 0..5, and the tick leaves CFG words active. -/
theorem everyClockCompletes : Obligations.EveryClockCompletes := fun _ h => h.step_completes

/-- Settles O52: 0 and FLOAT meet every invariant, and FLOAT requests no switch. -/
theorem resetIsConsistent : Obligations.ResetIsConsistent := fun _ host hp => resetWith_consistent hp host

/-- Settles O17: the frame of all commands, and the ports GATE and ACTCFG as functions of what it holds. -/
theorem commandsChangeNoOutput : Obligations.CommandsChangeNoOutput := by
  intro i s t h
  obtain ⟨hactive, hccr, hcnt, hreq, hsince, herr, hinputs, hparams⟩ := exec_frame h
  exact ⟨State.gate_congr hreq hsince hparams, State.actcfg_congr hactive, hactive, hccr, hcnt, hreq, hsince,
    herr, hinputs, hparams⟩

/-- Settles O40: the recorded RESP is the port's, which the word and the configuration decide. -/
theorem responseOfAClock : Obligations.ResponseOfAClock := by
  refine ⟨⟨rfl, rfl, rfl⟩, fun s t h => ?_⟩
  rw [step_resp h]
  exact ⟨s.respPort_eq_illegal_iff, s.respPort_eq_reject_iff, rfl, Resp.code_ne_three _⟩

/-- Settles O44: no command writes `err`, an illegal word sets it, a reset clock clears it. -/
theorem errIsSticky : Obligations.ErrIsSticky := by
  refine fun s t h => ⟨fun hr => ?_, fun hr => ?_⟩
  · rw [step_err h hr, Bool.or_eq_true]
  · obtain ⟨-, ⟨-, rfl⟩ | ⟨hr', -⟩⟩ := step_cases h
    · rfl
    · simp [hr] at hr'

/-- Settles O47: an idle clock and an illegal word write none of these elements but `err`, and a tick requests no
commit. -/
theorem writersOfEachElement : Obligations.WritersOfEachElement := by
  intro s t h hr
  have herr : t.err ≠ s.err → s.nextInput.illegal = true := by
    intro hne
    by_contra hill
    exact hne (by simp [step_err h hr, hill])
  rcases step_command_cases h hr with ⟨-, hv, i, u, hd, hx, rfl⟩ | ⟨-, rfl⟩ | ⟨-, rfl⟩
  · simp only [hd, hv, true_and, Option.some.injEq]
    refine ⟨fun hne => ?_, fun hne => ?_, fun hne => ?_, herr⟩
    · exact (exec_sector_writers hx).resolve_left (by simpa using hne)
    · exact (exec_shadow_writers hx).resolve_left fun ⟨hrun, hshadow, hpend, _⟩ =>
        State.tick_writes_no_shadow hrun hshadow hpend hne
    · exact (exec_duty_writers hx).resolve_left (by simpa using hne)
  · exact ⟨by simp, fun hne => absurd hne (State.tick_writes_no_shadow rfl rfl rfl), by simp, herr⟩
  · exact ⟨by simp, fun hne => absurd hne (State.tick_writes_no_shadow rfl rfl rfl), by simp, herr⟩

/-- Settles O50: every part of a clock keeps the agreement, and RESP is decided by the drive and the configuration. -/
theorem hiddenStateDoesNotReachCommands : Obligations.HiddenStateDoesNotReachCommands := by
  intro s s' t t' hsector hrun hduty herr hparams hinputs ht ht'
  have h : State.SeenAgree (s.shadowCfg = s'.shadowCfg) s s' := ⟨hsector, hrun, hduty, herr, hparams, hinputs, id⟩
  have hnext := h.of_step ht ht'
  have hresp : t.resp = t'.resp := by
    rw [step_resp ht, step_resp ht', State.respPort, State.respPort, h.nextInput, hparams]
  exact ⟨hnext.sector, hnext.run, hnext.duty, hnext.err, hresp, hnext.inputs, hnext.shadow⟩

/-- Settles O37: STATUS is a concatenation of fields. -/
theorem statusLayout : Obligations.StatusLayout := by
  intro s
  refine ⟨s.status_sector, ?_, ?_, ?_, s.status_zero, s.status_duty, s.status_sector⟩
  · rw [State.status_getLsbD]
    exact s.run.bit_eq_true_iff
  · rw [State.status_getLsbD]
    rfl
  · rw [State.status_getLsbD]
    rfl

/-- Settles O38: each gate bit is the switch of a phase, and a switch conducts when requested for DT ticks. -/
theorem gateLayout : Obligations.GateLayout := by
  intro s
  obtain ⟨hu, lu, hv, lv, hw, lw⟩ := s.gate_bits
  exact ⟨hu, lu, hv, lv, hw, lw, fun hr => if_pos hr, fun hr => if_neg (by simp [hr])⟩

/-- Settles O39: ACTCFG is a concatenation of the active words, three FLOAT words after reset. -/
theorem actcfgLayout : Obligations.ActcfgLayout :=
  ⟨fun s => ⟨s.actcfg_u, s.actcfg_v, s.actcfg_w⟩, fun _ => by rw [State.actcfg, State.resetWith_activeCfg]; decide⟩

end Sys2Proof
end

section
/-! Proofs about one clock (20_memory.md): a command that keeps the sector is idempotent (R55), every clock without reset
ticks, and the step of a command word is its command and one tick (R52). -/

namespace Sys2Proof.Machine

/-! ### Repeated commands -/

/-- The drive of a row leaves what selects the row and bounds the duty, so APPLY in the state it left drives it again. -/
theorem applyRow_driveRow {operand : SectorWord} {d : Half} {s : State} {row : PhaseTriple DriveIntent}
    (h : phaseTable (selectSector operand s.sector) = some row) :
    applyRow operand d (s.driveRow row (saturateDuty s.params.period d)) =
      .next (s.driveRow row (saturateDuty s.params.period d)) :=
  applyRow_some (s := s.driveRow row _) h

theorem sectorAfter_of_not_advance {p : Params} (h : p.advanceOnDecode = false) (current : SectorWord) :
    sectorAfter p current = current := by
  simp [sectorAfter, h]

theorem appliedSector_of_not_advance {p : Params} (h : p.advanceOnDecode = false) (current : SectorWord) :
    appliedSector p current = current := by
  simp [appliedSector, advancesBefore, h]

theorem andThen_pure (o : Host.Outcome State Fault Refusal) : andThen o (fun s => .next s) = o := by cases o <;> rfl

theorem State.setSector_self (s : State) : s.setSector s.sector = s := rfl

/-- A running DECODE that does not advance is `APPLY(7, d)` (43_throttle.md R187). -/
theorem runThrottle_of_not_advance {s : State} (h : s.params.advanceOnDecode = false) (d : Half) :
    runThrottle d s = applyRow 7 d s := by
  simp [runThrottle, advancesBefore, advancesAfter, h, andThen_pure]

theorem exec_decode_not_advancing {s : State} {w : Half} (hmin : s.params.pMin ≤ w.toNat) (hmax : w.toNat ≤ s.params.pMax)
    (hstop : s.params.wStop ≤ w.toNat) (hadv : s.params.advanceOnDecode = false) :
    exec (.decode w) s = applyRow 7 (BitVec.ofNat 16 ((clampWidth s.params w - s.params.wMin) * s.params.k)) s := by
  rw [exec_decode_running hmin hmax hstop, runThrottle_of_not_advance hadv]

/-! ### The clock of a command word -/

theorem State.withFetchWord_toNat (s : State) (w : Word) : s.withFetchWord 32 w.toNat = s.drive (.command w) := by
  have hw : w.toNat % 2 ^ 32 = w.toNat := Nat.mod_eq_of_lt w.isLt
  rw [State.withFetchWord, hw, BitVec.ofNat_toNat, BitVec.setWidth_eq]

/-- The clock of a command word is the word's command and the tick (20_memory.md R52, 30_encoding.md R78). -/
theorem step_withFetchWord {s : State} {w : Word} {i : Instr} (hv : s.params.Valid) (hd : decode w = some i) :
    step (s.withFetchWord 32 w.toNat) = andThen (exec i s.dropInput) finishClock := by
  rw [State.withFetchWord_toNat]
  simp [step, clock, clockWith, hv, PortInput.command, runCommand, execWord, hd]

/-! ### The tick of a clock -/

theorem State.tick_cnt_eq (s : State) :
    s.tick.cnt = if s.cnt.toNat = s.params.period - 1 then 0 else s.cnt + 1 := by
  split
  · next hcnt => exact (State.tick_at_update hcnt).1
  · next hcnt => exact (State.tick_between hcnt).1

theorem State.tick_dtReq_get (s : State) (p : Phase) :
    s.tick.dtReq.get p = channelRequest (s.tick.activeCfg.get p) s.tick.cnt s.tick.ccrActive := by
  rw [State.tick_requests, State.requests_get]

end Sys2Proof.Machine

namespace Sys2Proof

open Sys2Proof.Machine

/-- Settles O16: what a command writes is decided by its operand, the sector and the configuration, and it keeps the
sector and the configuration. -/
theorem repeatedCommandsAreIdempotent : Obligations.RepeatedCommandsAreIdempotent := by
  intro i s t hnadv hnret hdec h
  rcases exec_cases h with ⟨rfl, rfl⟩ | ⟨rfl, -⟩ | ⟨rfl, -⟩ | ⟨k, d, row, rfl, hrow, rfl⟩ | ⟨rfl, rfl⟩ |
    ⟨w, rfl, hw, rfl⟩ | ⟨w, rfl, ⟨hmin, hmax, hstop⟩, rfl⟩ | ⟨w, row, rfl, ⟨hmin, hmax, hstop⟩, hrow, rfl⟩
  · rfl
  · exact absurd rfl hnadv
  · exact absurd rfl hnret
  · exact applyRow_driveRow hrow
  · rfl
  · exact exec_decode_reject hw
  · exact exec_decode_stopped hmin hmax hstop
  · have hadv : s.params.advanceOnDecode = false := by
      by_contra hne
      have := hdec w rfl (by simpa using hne)
      omega
    rw [sectorAfter_of_not_advance hadv, State.setSector_self]
    rw [appliedSector_of_not_advance hadv] at hrow
    exact (exec_decode_not_advancing (s := s.driveRow row _) hmin hmax hstop hadv).trans (applyRow_driveRow hrow)

/-- Settles O23: a clock's command writes none of the timing state (`runCommand_frame`), and one tick follows it. -/
theorem everyClockTicks : Obligations.EveryClockTicks := by
  intro s t hv hr h
  obtain ⟨-, ⟨hr', -⟩ | ⟨-, u, hu, -, rfl⟩⟩ := step_cases h
  · simp [hr] at hr'
  · obtain ⟨-, -, hcnt, hreq, hsince, -, hparams⟩ := runCommand_frame hu
    obtain ⟨-, ⟨-, hdt⟩, -⟩ := hv
    have hdt : u.params.dt ≤ 255 := by rwa [hparams]
    refine ⟨?_, u.tick_dtReq_get, fun p => ?_, step_inputs h, step_params h⟩
    · simp [State.tick_cnt_eq, hcnt, hparams]
    · simp [State.tick_since_toNat hdt, hreq, hsince, hparams]

/-- Settles O22: the outcomes of the command, each carried on by `andThen` to the tick. -/
theorem stepRunsTheDecodedInstruction : Obligations.StepRunsTheDecodedInstruction := by
  intro s w i hv hd
  rw [step_withFetchWord hv hd]
  refine ⟨fun t ht hl => ?_, fun t ht hl => ?_, fun r hf => ?_, exec_not_refused i _⟩
  · simp [ht, finishClock, hl]
  · simp [ht, finishClock, hl]
  · simp [hf]

end Sys2Proof
end

section
/-! Proofs about the encoding (30_encoding.md): encode and decode are inverse, the legal words are the rows of R74 and the
illegal ones the list of R75, what each line assembles to, and the clocks of an illegal word and of WAITCOMMIT. -/

namespace Sys2Proof

/-! ### Encode and decode -/

/-- The word of a well-formed instruction decodes to it: its fields read back (30_encoding.md R77). -/
theorem decode_encode {i : Instr} (h : i.wellFormed = true) : decode (encode i) = some i := by
  cases i with
  | nop | advance | retreat | stop => rfl
  | apply s d =>
    have h6 : ¬s = 6#3 := by simpa [Instr.wellFormed] using h
    simp [encode, decode, opField_pack, rsv0Field_pack, sectorField_pack, rsv1Field_pack, dataField_pack, h6]
  | decode w => simp [encode, decode, opField_pack, rsv0Field_pack, sectorField_pack, rsv1Field_pack, dataField_pack]

/-- A decoded instruction's word is the word it was read from: the decoder leaves no field unread. -/
theorem encode_of_decode {w : Word} {i : Instr} (h : decode w = some i) : encode i = w := by
  obtain ⟨hrsv0, hrsv1, hrow⟩ := decode_cases h
  rw [← pack_fields hrsv0 hrsv1]
  rcases hrow with ⟨hop, hs, hd, rfl⟩ | ⟨hop, hs, hd, rfl⟩ | ⟨hop, hs, hd, rfl⟩ | ⟨hop, -, rfl⟩ | ⟨hop, hs, hd, rfl⟩ |
    ⟨hop, hs, rfl⟩
  · rw [hop, hs, hd, encode]
  · rw [hop, hs, hd, encode]
  · rw [hop, hs, hd, encode]
  · rw [hop, encode]
  · rw [hop, hs, hd, encode]
  · rw [hop, hs, encode]

/-! ### The rows of 30_encoding.md R74 -/

theorem row_mem_opcodeRows (i : Instr) : i.row ∈ opcodeRows := by cases i <;> simp [opcodeRows, Instr.row]

theorem row_accepts_encode {i : Instr} (h : i.wellFormed = true) : i.row.accepts (encode i) = true := by
  cases i with
  | nop => exact Laws.TableRow.nop h
  | advance => exact Laws.TableRow.advance h
  | retreat => exact Laws.TableRow.retreat h
  | apply s d => exact Laws.TableRow.apply s d h
  | stop => exact Laws.TableRow.stop h
  | decode w => exact Laws.TableRow.decode w h

theorem row_accepts_of_decode {w : Word} {i : Instr} (h : decode w = some i) : i.row.accepts w = true := by
  have haccepts := row_accepts_encode (decode_wellFormed h)
  rwa [encode_of_decode h] at haccepts

theorem OpcodeRow.accepts_iff (r : OpcodeRow) (w : Word) :
    r.accepts w = true ↔ w &&& r.mask = r.pattern ∧ (r.forbidsSix = true → sectorField w ≠ 6) := by
  cases hsix : r.forbidsSix <;> simp [OpcodeRow.accepts, hsix]

theorem eq_of_and_allOnes {n : Nat} {x m p : BitVec n} (hm : m = BitVec.allOnes n) (h : x &&& m = p) : x = p := by
  rwa [hm, BitVec.and_allOnes] at h

theorem opField_and (w m : Word) : opField (w &&& m) = opField w &&& opField m := BitVec.extractLsb'_and

theorem rsv0Field_and (w m : Word) : rsv0Field (w &&& m) = rsv0Field w &&& rsv0Field m := BitVec.extractLsb'_and

theorem sectorField_and (w m : Word) : sectorField (w &&& m) = sectorField w &&& sectorField m := BitVec.extractLsb'_and

theorem rsv1Field_and (w m : Word) : rsv1Field (w &&& m) = rsv1Field w &&& rsv1Field m := BitVec.extractLsb'_and

/-- A mask that covers OP and the reserved fields decides those fields of a word. -/
theorem pack_of_masked {w m : Word} {op : BitVec 4} (h : w &&& m = packWord op 0 0)
    (hmop : opField m = BitVec.allOnes 4) (hm0 : rsv0Field m = BitVec.allOnes 1) (hm1 : rsv1Field m = BitVec.allOnes 8) :
    packWord op (sectorField w) (dataField w) = w := by
  have hop : opField w = op :=
    eq_of_and_allOnes hmop (by rw [← opField_and, h, opField_pack])
  have hrsv0 : rsv0Field w = 0 :=
    eq_of_and_allOnes hm0 (by rw [← rsv0Field_and, h, rsv0Field_pack])
  have hrsv1 : rsv1Field w = 0 :=
    eq_of_and_allOnes hm1 (by rw [← rsv1Field_and, h, rsv1Field_pack])
  rw [← hop, pack_fields hrsv0 hrsv1]

/-- A row accepts the words of its own instructions only. -/
theorem exists_encode_of_accepts {r : OpcodeRow} (hr : r ∈ opcodeRows) {w : Word} (h : r.accepts w = true) :
    ∃ i : Instr, i.wellFormed = true ∧ i.row = r ∧ encode i = w := by
  obtain ⟨hmask, hsix⟩ := (r.accepts_iff w).mp h
  simp only [opcodeRows, List.mem_cons, List.not_mem_nil, or_false] at hr
  rcases hr with rfl | rfl | rfl | rfl | rfl | rfl
  · exact ⟨.nop, rfl, rfl, (eq_of_and_allOnes rfl hmask).symm⟩
  · exact ⟨.advance, rfl, rfl, (eq_of_and_allOnes rfl hmask).symm⟩
  · exact ⟨.retreat, rfl, rfl, (eq_of_and_allOnes rfl hmask).symm⟩
  · exact ⟨.apply (sectorField w) (dataField w), by simpa [Instr.wellFormed] using hsix rfl, rfl,
      pack_of_masked hmask rfl rfl rfl⟩
  · exact ⟨.stop, rfl, rfl, (eq_of_and_allOnes rfl hmask).symm⟩
  · have hs : sectorField w = 0 :=
      eq_of_and_allOnes rfl ((sectorField_and w 0xFFFF0000).symm.trans (congrArg sectorField hmask))
    have hw := pack_of_masked (op := 5) hmask rfl rfl rfl
    rw [hs] at hw
    exact ⟨.decode (dataField w), rfl, rfl, hw⟩

theorem exists_decode_of_accepts {r : OpcodeRow} (hr : r ∈ opcodeRows) {w : Word} (h : r.accepts w = true) :
    ∃ i, decode w = some i ∧ i.row = r := by
  obtain ⟨i, hi, hrow, rfl⟩ := exists_encode_of_accepts hr h
  exact ⟨i, decode_encode hi, hrow⟩

theorem decode_isSome_iff (w : Word) : (decode w).isSome = true ↔ ∃ r ∈ opcodeRows, r.accepts w = true := by
  rw [Option.isSome_iff_exists]
  constructor
  · rintro ⟨i, hi⟩
    exact ⟨i.row, row_mem_opcodeRows i, row_accepts_of_decode hi⟩
  · rintro ⟨r, hr, haccepts⟩
    obtain ⟨i, hi, -⟩ := exists_decode_of_accepts hr haccepts
    exact ⟨i, hi⟩

/-! ### The list of 30_encoding.md R75 -/

theorem opcode_cases (op : BitVec 4) : op = 0 ∨ op = 1 ∨ op = 2 ∨ op = 3 ∨ op = 4 ∨ op = 5 ∨ 6 ≤ op.toNat := by
  revert op; decide

theorem rsv0Field_ne_zero_iff (w : Word) : rsv0Field w ≠ 0 ↔ w.getLsbD 27 = true := by
  have hbit : (rsv0Field w).getLsbD 0 = w.getLsbD 27 := by simp [rsv0Field]
  rw [← hbit]
  generalize rsv0Field w = b
  revert b; decide

theorem decode_eq_none_of_rsv {w : Word} (h : rsv0Field w ≠ 0 ∨ rsv1Field w ≠ 0) : decode w = none := by
  simp only [decode, if_pos h]

theorem decode_eq_none_of_opcode {w : Word} (h : 6 ≤ (opField w).toNat) : decode w = none := by
  cases hd : decode w with
  | none => rfl
  | some i =>
    obtain ⟨-, -, ⟨hop, -⟩ | ⟨hop, -⟩ | ⟨hop, -⟩ | ⟨hop, -⟩ | ⟨hop, -⟩ | ⟨hop, -⟩⟩ := decode_cases hd <;>
      simp [hop] at h

/-- A word whose reserved fields are 0 is illegal by its opcode or by the operand fields that the opcode restricts. -/
theorem decode_eq_none_iff_of_rsv {w : Word} (h0 : rsv0Field w = 0) (h1 : rsv1Field w = 0) :
    decode w = none ↔
      6 ≤ (opField w).toNat ∨ (sectorField w ≠ 0 ∧ opField w ≠ 3) ∨
      (dataField w ≠ 0 ∧ (opField w = 0 ∨ opField w = 1 ∨ opField w = 2 ∨ opField w = 4)) ∨
      (opField w = 3 ∧ sectorField w = 6) := by
  rcases opcode_cases (opField w) with hop | hop | hop | hop | hop | hop | hop
  · simp [decode, h0, h1, hop, imp_iff_not_or]
  · simp [decode, h0, h1, hop, imp_iff_not_or]
  · simp [decode, h0, h1, hop, imp_iff_not_or]
  · simp [decode, h0, h1, hop]
  · simp [decode, h0, h1, hop, imp_iff_not_or]
  · simp [decode, h0, h1, hop]
  · simp [decode_eq_none_of_opcode hop, hop]

/-! ### Words from numbers (30_encoding.md R70, R79) -/

theorem packWord_eq_or (op : BitVec 4) (s : SectorWord) (data : Half) :
    packWord op s data = op.setWidth 32 <<< 28 ||| s.setWidth 32 <<< 24 ||| data.setWidth 32 := by
  apply BitVec.eq_of_getLsbD_eq
  intro i hi
  rw [packWord_getLsbD]
  interval_cases i <;> simp

theorem packWord_ofNat (op : BitVec 4) (s : SectorWord) {d : Nat} (hd : d ≤ 65535) :
    packWord op s (BitVec.ofNat 16 d) = packWord op s 0 ||| BitVec.ofNat 32 d := by
  simp [packWord_eq_or, BitVec.setWidth_ofNat_of_le_of_lt (show 16 ≤ 32 by decide) (show d < 2 ^ 16 by omega)]

theorem packWord_sector_ofNat (op : BitVec 4) {n : Nat} (hn : n ≤ 5) :
    packWord op (BitVec.ofNat 3 n) 0 = packWord op 0 0 ||| BitVec.ofNat 32 n <<< 24 := by
  simp [packWord_eq_or, BitVec.setWidth_ofNat_of_le_of_lt (show 3 ≤ 32 by decide) (show n < 2 ^ 3 by omega)]

end Sys2Proof

namespace Sys2Proof.Machine

/-! ### The assembler (30_encoding.md R79, R80) -/

/-- A line with one 16-bit operand is refused exactly when the operand does not fit. -/
theorem halfOperand_bind_issue {is : Half → List Instr} {ws : List Word} {d : Nat}
    (h : d ≤ 65535 → (is (BitVec.ofNat 16 d)).map encode = ws) :
    ((halfOperand d).bind fun x => issueInstrs (is x)) = if d ≤ 65535 then some (.issue ws) else none := by
  unfold halfOperand
  split
  · next hd => simp [issueInstrs, h hd]
  · rfl

theorem encode_apply_ofNat (k : SectorWord) {d : Nat} (hd : d ≤ 65535) :
    encode (.apply k (BitVec.ofNat 16 d)) = encode (.apply k 0) ||| BitVec.ofNat 32 d := packWord_ofNat 3 k hd

theorem encode_decode_ofNat {w : Nat} (hw : w ≤ 65535) :
    encode (.decode (BitVec.ofNat 16 w)) = encode (.decode 0) ||| BitVec.ofNat 32 w := packWord_ofNat 5 0 hw

theorem encode_apply_sector_ofNat {n : Nat} (hn : n ≤ 5) :
    encode (.apply (BitVec.ofNat 3 n) 0) = 0x30000000#32 ||| BitVec.ofNat 32 n <<< 24 := packWord_sector_ofNat 3 hn

theorem assemble_apply_num (n d : Nat) :
    (AsmLine.apply (.num n) d).assemble =
      if n ≤ 5 ∧ d ≤ 65535 then some (.issue [0x30000000#32 ||| BitVec.ofNat 32 n <<< 24 ||| BitVec.ofNat 32 d])
      else none := by
  by_cases hn : n ≤ 5
  · simp only [AsmLine.assemble, AsmSector.operand, hn, if_true, Option.bind_some, true_and]
    exact halfOperand_bind_issue fun hd => by
      rw [List.map_singleton, encode_apply_ofNat _ hd, encode_apply_sector_ofNat hn]
  · simp [AsmLine.assemble, AsmSector.operand, hn]

/-! ### An illegal word's clock (60_exceptions.md R221) -/

theorem execWord_illegal {w : Word} (h : decode w = none) (s : State) : execWord w s = .next s.raiseIllegal := by
  simp only [execWord, h]

theorem State.tick_raiseIllegal (s : State) : s.raiseIllegal.tick = s.tick.raiseIllegal := by
  rw [State.raiseIllegal, State.tick_setResp, State.tick_setErr, State.raiseIllegal]

/-- A clock with no command is a tick, and completes only when the tick leaves CFG words active. -/
theorem step_idle_next {s t : State} (h : step (s.drive .idle) = .next t) :
    s.params.Valid ∧ s.dropInput.tick.channelWordsLegal = true ∧ t = s.dropInput.tick.setResp .ok := by
  obtain ⟨hv, ⟨hr, -⟩ | ⟨-, u, hu, hl, rfl⟩⟩ := step_cases h
  · simp [PortInput.idle] at hr
  · rw [State.drive_nextInput, State.drive_dropInput] at hu
    obtain rfl : s.dropInput.setResp .ok = u := by simpa [runCommand, PortInput.idle, execNop] using hu
    rw [State.tick_setResp] at hl ⊢
    exact ⟨hv, hl, rfl⟩

theorem step_illegal {s : State} {w : Word} (hv : s.params.Valid) (hl : s.dropInput.tick.channelWordsLegal = true)
    (hw : decode w = none) : step (s.drive (.command w)) = .next s.dropInput.tick.raiseIllegal := by
  rw [← State.tick_raiseIllegal]
  refine step_of_runCommand hv rfl ?_ ?_
  · simp [runCommand, PortInput.command, execWord_illegal hw]
  · rw [State.tick_raiseIllegal]; exact hl

/-! ### WAITCOMMIT (30_encoding.md R80) -/

theorem runCommand_encode {i : Instr} (hi : i.wellFormed = true) (s : State) :
    runCommand (.command (encode i)) s = exec i s := by
  simp [runCommand, PortInput.command, execWord, decode_encode hi]

theorem State.Inv.issueWord_nop {s : State} (h : s.Inv) :
    issueWord (encode .nop) s = .next (s.dropInput.setResp .ok).tick :=
  step_of_runCommand h.params rfl (runCommand_encode (i := .nop) rfl _)
    ((State.channelWordsLegal_iff _).mpr (h.dropInput.setResp .ok).tick.activeWords)

theorem pollUntilCommitted_of_settled {s : State} (h : s.commitPending = false) (fuel : Nat) :
    pollUntilCommitted fuel s = .next s := by
  cases fuel <;> simp [pollUntilCommitted, h]

theorem State.Inv.pollUntilCommitted_succ {s : State} (h : s.Inv) (hp : s.commitPending = true) (fuel : Nat) :
    pollUntilCommitted (fuel + 1) s = pollUntilCommitted fuel (s.dropInput.setResp .ok).tick := by
  simp [pollUntilCommitted, hp, h.issueWord_nop]

/-- PERIOD - cnt clocks are enough: the poll's last clock is the one of the update event (42_commutation.md R167). -/
theorem State.Inv.pollUntilCommitted_commits {fuel : Nat} {s : State} (h : s.Inv)
    (hfuel : s.params.period - s.cnt.toNat ≤ fuel) :
    ∃ t, pollUntilCommitted fuel s = .next t ∧ t.commitPending = false ∧ t.activeCfg = s.shadowCfg ∧
      t.ccrActive = s.duty ∧ t.sector = s.sector ∧ t.run = s.run ∧ t.err = s.err := by
  induction fuel generalizing s with
  | zero =>
    have hcnt := h.cnt
    omega
  | succ fuel ih =>
    cases hp : s.commitPending with
    | false =>
      obtain ⟨hact, hccr⟩ := h.settled hp
      exact ⟨s, pollUntilCommitted_of_settled hp _, hp, hact, hccr, rfl, rfl, rfl⟩
    | true =>
      rw [h.pollUntilCommitted_succ hp]
      by_cases hlast : s.cnt.toNat = s.params.period - 1
      · obtain ⟨-, hdone⟩ := State.tick_at_update (s := s.dropInput.setResp .ok) hlast
        obtain ⟨hact, hccr⟩ := State.tick_commits (s := s.dropInput.setResp .ok) hlast hp
        exact ⟨_, pollUntilCommitted_of_settled hdone _, hdone, hact, hccr, by simp⟩
      · obtain ⟨hnext, -⟩ := State.tick_between (s := s.dropInput.setResp .ok) hlast
        have htick : (s.dropInput.setResp .ok).tick.Inv := (h.dropInput.setResp .ok).tick
        have hcnt : (s.dropInput.setResp .ok).tick.cnt.toNat = s.cnt.toNat + 1 := by
          have hlt := h.cnt
          have hperiod := h.params.1.2
          rw [hnext, BitVec.toNat_add]
          exact Nat.mod_eq_of_lt (show s.cnt.toNat + 1 < 65536 by omega)
        have hleft : (s.dropInput.setResp .ok).tick.params.period - (s.dropInput.setResp .ok).tick.cnt.toNat ≤ fuel := by
          simp only [hcnt, State.tick_params, State.setResp_params, State.dropInput_params]
          omega
        simpa using ih htick hleft

end Sys2Proof.Machine

namespace Sys2Proof

open Sys2Proof.Machine

/-- Settles O1: the fields of a packed word read back. -/
theorem decodeOfEncodeIsTheInstruction : Obligations.DecodeOfEncodeIsTheInstruction := fun _ h => decode_encode h

/-- Settles O2: a word decodes exactly when it is the word of an instruction of a row that accepts it, so a row that accepts
it is the row of what it decodes to, and the word is read off the instruction. -/
theorem legalWordsAreTheTableRows : Obligations.LegalWordsAreTheTableRows := by
  refine ⟨fun w => ?_, fun w r hr r' hr' h h' => ?_, fun w w' i h h' => ?_, fun w i h => ?_⟩
  · rw [Bool.eq_iff_iff, decode_isSome_iff, List.any_eq_true]
  · obtain ⟨i, hi, rfl⟩ := exists_decode_of_accepts hr h
    obtain ⟨i', hi', rfl⟩ := exists_decode_of_accepts hr' h'
    rw [Option.some.inj (hi.symm.trans hi')]
  · rw [← encode_of_decode h, encode_of_decode h']
  · exact ⟨encode_of_decode h, row_accepts_of_decode h, decode_wellFormed h⟩

/-- Settles O3: a nonzero reserved field makes a word illegal, and without one its opcode and operand fields decide. -/
theorem illegalWordsAreTheListOfRule75 : Obligations.IllegalWordsAreTheListOfRule75 := by
  intro w
  -- the bits the statement names are the fields of R70
  change _ ↔ 6 ≤ (opField w).toNat ∨ w.getLsbD 27 = true ∨ rsv1Field w ≠ 0 ∨ (sectorField w ≠ 0 ∧ opField w ≠ 3) ∨
    (dataField w ≠ 0 ∧ (opField w = 0 ∨ opField w = 1 ∨ opField w = 2 ∨ opField w = 4)) ∨
    (opField w = 3 ∧ sectorField w = 6)
  rw [← rsv0Field_ne_zero_iff]
  by_cases hrsv : rsv0Field w ≠ 0 ∨ rsv1Field w ≠ 0
  · simp only [decode_eq_none_of_rsv hrsv, true_iff]
    tauto
  · obtain ⟨h0, h1⟩ : rsv0Field w = 0 ∧ rsv1Field w = 0 := by simpa [not_or] using hrsv
    rw [decode_eq_none_iff_of_rsv h0 h1]
    simp [h0, h1]

/-- Settles O5: the operand bounds of each line, then its words as packs of numbers. -/
theorem assemblerRefusesWhatHasNoEncoding : Obligations.AssemblerRefusesWhatHasNoEncoding := by
  refine ⟨assemble_apply_num, fun d => ?_, fun w => ?_, fun d => ?_, fun d => ?_, fun n => ?_, fun _ => rfl, rfl, rfl, rfl,
    rfl, rfl⟩
  · exact halfOperand_bind_issue fun hd => by rw [List.map_singleton, encode_apply_ofNat _ hd]; rfl
  · exact halfOperand_bind_issue fun hw => by rw [List.map_singleton, encode_decode_ofNat hw]; rfl
  · exact halfOperand_bind_issue fun hd => by rw [List.map_cons, List.map_singleton, encode_apply_ofNat _ hd]; rfl
  · exact halfOperand_bind_issue fun hd => by rw [List.map_cons, List.map_singleton, encode_apply_ofNat _ hd]; rfl
  · simp only [AsmLine.assemble, issueInstrs, List.map_replicate]
    rfl

/-- Settles O43: the tick has no part in `err` and RESP (`State.tick_raiseIllegal`), so the illegal word's clock is the idle
clock with those two written. -/
theorem illegalWordSetsErrOnly : Obligations.IllegalWordSetsErrOnly := by
  refine ⟨fun s t w hw h => ?_, fun s w hw => execWord_illegal hw s⟩
  obtain ⟨hv, hl, rfl⟩ := step_idle_next h
  exact step_illegal hv hl hw

/-- Settles O57: PERIOD clocks reach the update event from any counter value. -/
theorem waitCommitEnds : Obligations.WaitCommitEnds :=
  fun s h => h.pollUntilCommitted_commits (Nat.sub_le s.params.period s.cnt.toNat)

/-- Settles O4: the nine closed examples, evaluated. -/
theorem encodingExamplesOfRule81 : Obligations.EncodingExamplesOfRule81 := by
  refine ⟨by decide, by decide, by decide, by decide, by decide, by decide, by decide, by decide, by decide,
    decode_encode (i := .apply 0 32500) rfl, decode_encode (i := .apply 7 32500) rfl,
    decode_encode (i := .apply 5 65000) rfl, decode_encode (i := .decode 1500) rfl,
    decode_encode (i := .decode 500) rfl, decode_encode (i := .decode 2500) rfl, by decide, by decide, by decide⟩

end Sys2Proof
end

section
/-! Proofs about the Phase Drive Table (40_phase_table.md): the phase of each role in a sector and how the roles move with
the sector (R103 to R105, R107), and the fault of a read outside the six rows (R106). -/

namespace Sys2Proof.Machine

/-! ### The roles of a sector -/

/-- The six rows of 40_phase_table.md R102. -/
theorem phaseTable_cases {s : SectorWord} {row : PhaseTriple DriveIntent} (h : phaseTable s = some row) :
    (s = 0 ∧ row = ⟨.high, .low, .float⟩) ∨ (s = 1 ∧ row = ⟨.high, .float, .low⟩) ∨
    (s = 2 ∧ row = ⟨.float, .high, .low⟩) ∨ (s = 3 ∧ row = ⟨.low, .high, .float⟩) ∨
    (s = 4 ∧ row = ⟨.low, .float, .high⟩) ∨ (s = 5 ∧ row = ⟨.float, .low, .high⟩) := by
  have hs : s = 0 ∨ s = 1 ∨ s = 2 ∨ s = 3 ∨ s = 4 ∨ s = 5 := by
    have hlt := lt_of_phaseTable h
    clear h
    revert s; decide
  rcases hs with rfl | rfl | rfl | rfl | rfl | rfl <;> simpa [phaseTable, eq_comm] using h

/-- The phase that is HIGH in a sector (40_phase_table.md R105). -/
def highPhase (s : SectorWord) : Phase := if s.toNat < 2 then .u else if s.toNat < 4 then .v else .w

/-- The phase that is LOW in a sector (40_phase_table.md R105). -/
def lowPhase (s : SectorWord) : Phase := if s = 0 ∨ s = 5 then .v else if s.toNat < 3 then .w else .u

/-- The phase that is FLOAT in a sector: W, V, U and again (40_phase_table.md R102). -/
def floatPhase (s : SectorWord) : Phase := if s.toNat % 3 = 0 then .w else if s.toNat % 3 = 1 then .v else .u

section
variable {s : SectorWord} {row row' : PhaseTriple DriveIntent}

theorem row_get_highPhase (h : phaseTable s = some row) : row.get (highPhase s) = .high := by
  rcases phaseTable_cases h with ⟨rfl, rfl⟩ | ⟨rfl, rfl⟩ | ⟨rfl, rfl⟩ | ⟨rfl, rfl⟩ | ⟨rfl, rfl⟩ | ⟨rfl, rfl⟩ <;> rfl

theorem row_get_lowPhase (h : phaseTable s = some row) : row.get (lowPhase s) = .low := by
  rcases phaseTable_cases h with ⟨rfl, rfl⟩ | ⟨rfl, rfl⟩ | ⟨rfl, rfl⟩ | ⟨rfl, rfl⟩ | ⟨rfl, rfl⟩ | ⟨rfl, rfl⟩ <;> rfl

theorem row_get_eq_float_iff (h : phaseTable s = some row) (p : Phase) : row.get p = .float ↔ p = floatPhase s := by
  rcases phaseTable_cases h with ⟨rfl, rfl⟩ | ⟨rfl, rfl⟩ | ⟨rfl, rfl⟩ | ⟨rfl, rfl⟩ | ⟨rfl, rfl⟩ | ⟨rfl, rfl⟩ <;>
    cases p <;> decide

/-! ### The step to the next sector -/

theorem floatPhase_ne_nextSector (s : SectorWord) : floatPhase s ≠ floatPhase (nextSector s) := by
  revert s; decide

theorem floatPhase_ne_nextSector_nextSector (s : SectorWord) :
    floatPhase s ≠ floatPhase (nextSector (nextSector s)) := by
  revert s; decide

/-- The phase that leaves FLOAT takes the polarity of the one that enters it (40_phase_table.md R104). -/
theorem row_get_leaving_float (h : phaseTable s = some row) (h' : phaseTable (nextSector s) = some row') :
    row'.get (floatPhase s) = row.get (floatPhase (nextSector s)) := by
  rcases phaseTable_cases h with ⟨rfl, rfl⟩ | ⟨rfl, rfl⟩ | ⟨rfl, rfl⟩ | ⟨rfl, rfl⟩ | ⟨rfl, rfl⟩ | ⟨rfl, rfl⟩ <;>
    cases h' <;> rfl

/-- The third phase keeps its intent; it is the next to float (40_phase_table.md R104). -/
theorem row_get_kept (h : phaseTable s = some row) (h' : phaseTable (nextSector s) = some row') :
    row'.get (floatPhase (nextSector (nextSector s))) = row.get (floatPhase (nextSector (nextSector s))) := by
  rcases phaseTable_cases h with ⟨rfl, rfl⟩ | ⟨rfl, rfl⟩ | ⟨rfl, rfl⟩ | ⟨rfl, rfl⟩ | ⟨rfl, rfl⟩ | ⟨rfl, rfl⟩ <;>
    cases h' <;> rfl

end

/-- A backward step is undone by a forward one (40_phase_table.md R107). -/
theorem nextSector_prevSector {s : SectorWord} (h : s.toNat < 6) : nextSector (prevSector s) = s := by
  apply BitVec.eq_of_toNat_eq
  rw [nextSector_toNat, prevSector_toNat]
  omega

theorem phaseTable_injective {s s' : SectorWord} (h : phaseTable s = phaseTable s') (hs : phaseTable s ≠ none) :
    s = s' := by
  revert s s'; decide

/-! ### Reads outside the rows (40_phase_table.md R106) -/

theorem applyRow_of_not_lt {operand : SectorWord} (d : Half) {s : State}
    (h : 6 ≤ (selectSector operand s.sector).toNat) : applyRow operand d s = .fault .phaseTableIndex := by
  rcases applyRow_cases operand d s with ⟨row, hrow, -⟩ | ⟨-, hfault⟩
  · exact absurd (lt_of_phaseTable hrow) (by omega)
  · exact hfault

/-- A running DECODE that steps after its APPLY, or not at all, applies the current sector (43_throttle.md R187). -/
theorem appliedSector_of_not_advancesBefore {p : Params}
    (h : ¬(p.advanceOnDecode = true ∧ p.stepOrder = .advanceThenApply)) (current : SectorWord) :
    appliedSector p current = current := by
  have hb : advancesBefore p = false := by simpa [advancesBefore] using h
  simp [appliedSector, hb]

end Sys2Proof.Machine

namespace Sys2Proof

open Sys2Proof.Machine

/-- Settles O18: APPLY and a running DECODE read the table at the selected sector, and there is no row from index 6 on. -/
theorem tableReadOutsideItsRowsFaults : Obligations.TableReadOutsideItsRowsFaults := by
  refine ⟨phaseTable_eq_none_iff, fun s d => ?_, fun s d hs => ?_, fun s w hs hmin hstop hmax horder => ?_⟩
  · exact applyRow_of_not_lt (operand := 6) (s := s) d (Nat.le_refl 6)
  · exact applyRow_of_not_lt (operand := 7) d hs
  · rw [exec_decode_running hmin hmax hstop]
    apply runThrottle_none
    rw [appliedSector_of_not_advancesBefore horder]
    exact (phaseTable_eq_none_iff s.sector).mpr hs

/-- Settles O19: the three roles are held by `highPhase`, `lowPhase` and `floatPhase`; in a step the phase of the next FLOAT
enters it, the phase of this one leaves it, and the third is the FLOAT of the sector after. -/
theorem phaseTableIsSixStep : Obligations.PhaseTableIsSixStep := by
  refine ⟨fun s row h => ?_, fun s r r' h h' => ?_, fun s => nextSector_prevSector, fun s s' => phaseTable_injective,
    fun s row h => ⟨row_get_highPhase h, row_get_lowPhase h⟩⟩
  · have hhigh := row_get_highPhase h
    have hlow := row_get_lowPhase h
    have hfloat := (row_get_eq_float_iff h _).mpr rfl
    exact ⟨_, _, _, hhigh, hlow, hfloat, ne_of_apply_ne row.get (by simp [hhigh, hlow]),
      ne_of_apply_ne row.get (by simp [hlow, hfloat]), ne_of_apply_ne row.get (by simp [hhigh, hfloat])⟩
  · have hoffOn := (floatPhase_ne_nextSector s).symm
    have hoffKeep := floatPhase_ne_nextSector (nextSector s)
    have honKeep := floatPhase_ne_nextSector_nextSector s
    exact ⟨_, _, _, hoffOn, hoffKeep, honKeep, (row_get_eq_float_iff h _).not.mpr hoffOn,
      (row_get_eq_float_iff h' _).mpr rfl, (row_get_eq_float_iff h _).mpr rfl, row_get_leaving_float h h',
      row_get_kept h h', (row_get_eq_float_iff h _).not.mpr honKeep.symm⟩

end Sys2Proof
end

section
/-! Proofs about the channel driver's outputs (41_channel_driver.md): the requests of the words (R121, R126), what a clock and
a run do to one channel's dead-time state (R127), and when its two switches conduct (R128 to R132, R246). -/

namespace Sys2Proof.Machine

/-! ### The requests of a word -/

/-- FORCE_LOW holds the reference at 0, PWM compares (41_channel_driver.md R125). -/
theorem reference_eq_and (c : ChanWord) (cnt ccr : Half) :
    reference c cnt ccr = (c.getLsbD 0 && decide (cnt.toNat < ccr.toNat)) := by
  unfold reference ChanWord.mode
  cases c.getLsbD 0 <;> rfl

section
variable {s : State} {p : Phase}

theorem State.Consistent.dtReq_get (h : s.Consistent) (p : Phase) :
    s.dtReq.get p = channelRequest (s.activeCfg.get p) s.cnt s.ccrActive := by
  rw [h.requested, State.requests_get]

theorem State.Consistent.dtReq_float (h : s.Consistent) (hp : s.activeCfg.get p = cfgWord .float) :
    s.dtReq.get p = ⟨false, false⟩ := by
  rw [h.dtReq_get, hp, channelRequest_float]

theorem State.Consistent.dtReq_low (h : s.Consistent) (hp : s.activeCfg.get p = cfgWord .low) :
    s.dtReq.get p = ⟨false, true⟩ := by
  rw [h.dtReq_get, hp, channelRequest_low]

theorem State.Consistent.dtReq_high (h : s.Consistent) (hp : s.activeCfg.get p = cfgWord .high) :
    s.dtReq.get p = ⟨decide (s.cnt.toNat < s.ccrActive.toNat), !decide (s.cnt.toNat < s.ccrActive.toNat)⟩ := by
  rw [h.dtReq_get, hp, channelRequest_high]

/-- The reference of a HIGH phase at duty 0 never rises (41_channel_driver.md R129, c = 0). -/
theorem State.Consistent.dtReq_high_zero (h : s.Consistent) (hp : s.activeCfg.get p = cfgWord .high)
    (hc : s.ccrActive = 0) : s.dtReq.get p = ⟨false, true⟩ := by
  simp [h.dtReq_high hp, hc]

/-- The reference of a HIGH phase at full duty never falls (41_channel_driver.md R129, c = PERIOD). -/
theorem State.Consistent.dtReq_high_full (h : s.Consistent) (hp : s.activeCfg.get p = cfgWord .high)
    (hc : s.ccrActive.toNat = s.params.period) : s.dtReq.get p = ⟨true, false⟩ := by
  simp [h.dtReq_high hp, hc, h.inv.cnt]

/-! ### The switches of a channel -/

theorem State.highOn_iff (s : State) (p : Phase) :
    s.highOn p = true ↔ (s.dtReq.get p).a = true ∧ (s.dtSince.get p).toNat = s.params.dt := by
  simp [State.highOn]

theorem State.lowOn_iff (s : State) (p : Phase) :
    s.lowOn p = true ↔ (s.dtReq.get p).b = true ∧ (s.dtSince.get p).toNat = s.params.dt := by
  simp [State.lowOn]

theorem State.open_of_no_request (h : s.dtReq.get p = ⟨false, false⟩) : s.highOn p = false ∧ s.lowOn p = false := by
  simp [State.highOn, State.lowOn, h]

theorem State.Consistent.float_open (h : s.Consistent) (hp : s.activeCfg.get p = cfgWord .float) :
    s.highOn p = false ∧ s.lowOn p = false :=
  State.open_of_no_request (h.dtReq_float hp)

end

/-! ### One channel in a clock -/

/-- What a clock does to one channel: a reset takes both requests away; else the pair stays and its dead-time counter rises
to DT, or the pair changes and the counter restarts (41_channel_driver.md R127). -/
theorem step_channel_cases {s t : State} (h : step s = .next t) (p : Phase) :
    (s.nextInput.rst = true ∧ t.dtReq.get p = ⟨false, false⟩) ∨
    (t.dtReq.get p = s.dtReq.get p ∧ (t.dtSince.get p).toNat = min ((s.dtSince.get p).toNat + 1) s.params.dt) ∨
    (t.dtReq.get p ≠ s.dtReq.get p ∧ (t.dtSince.get p).toNat = 0) := by
  obtain ⟨hv, ⟨hr, rfl⟩ | ⟨hr, -⟩⟩ := step_cases h
  · exact .inl ⟨hr, by simp⟩
  · obtain ⟨-, -, hsince, -⟩ := everyClockTicks s t hv hr h
    by_cases hreq : t.dtReq.get p = s.dtReq.get p
    · exact .inr (.inl ⟨hreq, by rw [hsince, if_pos hreq]⟩)
    · exact .inr (.inr ⟨hreq, by rw [hsince, if_neg hreq]⟩)

theorem step_since_of_kept {s t : State} {p : Phase} (h : step s = .next t) (hr : s.nextInput.rst = false)
    (hreq : t.dtReq.get p = s.dtReq.get p) :
    (t.dtSince.get p).toNat = min ((s.dtSince.get p).toNat + 1) s.params.dt := by
  rcases step_channel_cases h p with ⟨hr', -⟩ | ⟨-, hsince⟩ | ⟨hne, -⟩
  · simp [hr] at hr'
  · exact hsince
  · exact absurd hreq hne

theorem step_since_of_changed {s t : State} {p : Phase} (h : step s = .next t) (hr : s.nextInput.rst = false)
    (hreq : t.dtReq.get p ≠ s.dtReq.get p) : (t.dtSince.get p).toNat = 0 := by
  rcases step_channel_cases h p with ⟨hr', -⟩ | ⟨heq, -⟩ | ⟨-, hsince⟩
  · simp [hr] at hr'
  · exact absurd heq hreq
  · exact hsince

/-- Between two update events a clock counts and leaves the active elements alone (41_channel_driver.md R124). -/
theorem State.Inv.step_between {s t : State} (hs : s.Inv) (h : step s = .next t) (hr : s.nextInput.rst = false)
    (hcnt : s.cnt.toNat + 1 < s.params.period) :
    t.cnt.toNat = s.cnt.toNat + 1 ∧ t.activeCfg = s.activeCfg ∧ t.ccrActive = s.ccrActive := by
  obtain ⟨-, ⟨hr', -⟩ | ⟨-, u, hu, -, rfl⟩⟩ := step_cases h
  · simp [hr] at hr'
  · obtain ⟨hact, hccr, hcnt', -, -, -, hparams⟩ := runCommand_frame hu
    simp only [State.dropInput_activeCfg, State.dropInput_ccrActive, State.dropInput_cnt,
      State.dropInput_params] at hact hccr hcnt' hparams
    obtain ⟨hnext, -, hact', hccr'⟩ := State.tick_between (s := u) (by rw [hcnt', hparams]; omega)
    have hperiod := hs.params.1.2
    refine ⟨?_, hact'.trans hact, hccr'.trans hccr⟩
    rw [hnext, hcnt', BitVec.toNat_add]
    exact Nat.mod_eq_of_lt (show s.cnt.toNat + 1 < 65536 by omega)

/-! ### One channel over a run -/

theorem State.NoReset.nextInput_rst {n : Nat} {s u : State} (h : s.NoReset (n + 1)) (hu : clocks n s = .next u) :
    u.nextInput.rst = false := by
  rw [← State.inputAt_zero, clocks_inputAt hu]
  exact h n (Nat.lt_succ_self n)

theorem State.NoReset.of_succ {n : Nat} {s : State} (h : s.NoReset (n + 1)) : s.NoReset n :=
  fun i hi => h i (Nat.lt_succ_of_lt hi)

/-- While a pair stays, its dead-time counter rises by one a clock, up to DT (41_channel_driver.md R127). -/
theorem clocks_since_of_kept {k : Nat} {s t : State} {p : Phase} (hle : (s.dtSince.get p).toNat ≤ s.params.dt)
    (hr : s.NoReset k) (hkept : ∀ j u, j ≤ k → clocks j s = .next u → u.dtReq.get p = s.dtReq.get p)
    (h : clocks k s = .next t) : (t.dtSince.get p).toNat = min ((s.dtSince.get p).toNat + k) s.params.dt := by
  induction k generalizing t with
  | zero =>
    obtain rfl : s = t := by simpa using h
    simp [hle]
  | succ k ih =>
    obtain ⟨u, hu, hstep⟩ := clocks_succ_last.mp h
    have hsince := ih hr.of_succ (fun j v hj => hkept j v (Nat.le_succ_of_le hj)) hu
    have hreq : t.dtReq.get p = u.dtReq.get p :=
      (hkept _ t (Nat.le_refl _) h).trans (hkept k u (Nat.le_succ k) hu).symm
    rw [step_since_of_kept hstep (hr.nextInput_rst hu) hreq, hsince, clocks_params hu]
    omega

/-- A consistent phase that requests `q` throughout a run of DT clocks or more has settled (41_channel_driver.md R127). -/
theorem State.Consistent.clocks_settled {k : Nat} {s t : State} {p : Phase} {q : Request} (hs : s.Consistent)
    (hr : s.NoReset k) (hq : ∀ j u, j ≤ k → clocks j s = .next u → u.dtReq.get p = q) (h : clocks k s = .next t)
    (hk : s.params.dt ≤ k) : (t.dtSince.get p).toNat = t.params.dt := by
  have hkept : ∀ j u, j ≤ k → clocks j s = .next u → u.dtReq.get p = s.dtReq.get p := fun j u hj hu =>
    (hq j u hj hu).trans (hq 0 s (Nat.zero_le k) rfl).symm
  rw [clocks_since_of_kept (hs.inv.since p) hr hkept h, clocks_params h]
  omega

/-- A switch (`f` reads its request) that was not requested `n` clocks ago has been requested for less than `n` clocks since:
its dead-time counter restarted in between, and a reset requests no switch. -/
theorem clocks_since_lt {f : Request → Bool} (hreset : f ⟨false, false⟩ = false) {n : Nat} {s t : State} {p : Phase}
    (hs : f (s.dtReq.get p) = false) (h : clocks n s = .next t) (ht : f (t.dtReq.get p) = true) :
    (t.dtSince.get p).toNat < n := by
  induction n generalizing t with
  | zero =>
    obtain rfl : s = t := by simpa using h
    simp [hs] at ht
  | succ n ih =>
    obtain ⟨u, hu, hstep⟩ := clocks_succ_last.mp h
    rcases step_channel_cases hstep p with ⟨-, hnone⟩ | ⟨hreq, hsince⟩ | ⟨-, hsince⟩
    · simp [hnone, hreset] at ht
    · have hlt := ih hu (hreq ▸ ht)
      omega
    · omega

section
variable {n : Nat} {s t : State} {p : Phase}

theorem dt_lt_of_highOn (hs : (s.dtReq.get p).a = false) (h : clocks n s = .next t) (ht : t.highOn p = true) :
    s.params.dt < n := by
  obtain ⟨hreq, hsince⟩ := (t.highOn_iff p).mp ht
  rw [← clocks_params h, ← hsince]
  exact clocks_since_lt (f := Request.a) rfl hs h hreq

theorem dt_lt_of_lowOn (hs : (s.dtReq.get p).b = false) (h : clocks n s = .next t) (ht : t.lowOn p = true) :
    s.params.dt < n := by
  obtain ⟨hreq, hsince⟩ := (t.lowOn_iff p).mp ht
  rw [← clocks_params h, ← hsince]
  exact clocks_since_lt (f := Request.b) rfl hs h hreq

end

/-! ### The period of a HIGH phase -/

/-- A HIGH phase `k` ticks into a period that starts with a change of its requests: the dead-time counter counts from the
start of the period, and after the reference falls at tick `c` from there (41_channel_driver.md R129). -/
theorem State.Consistent.clocks_high_phase {k : Nat} {s : State} {p : Phase} (hs : s.Consistent) (hcnt : s.cnt = 0)
    (hp : s.activeCfg.get p = cfgWord .high) (hsince : (s.dtSince.get p).toNat = 0)
    (hk : k < s.params.period) (hr : s.NoReset k) :
    ∃ t, clocks k s = .next t ∧ t.cnt.toNat = k ∧ t.activeCfg = s.activeCfg ∧ t.ccrActive = s.ccrActive ∧
      (t.dtSince.get p).toNat = min (if k < s.ccrActive.toNat then k else k - s.ccrActive.toNat) s.params.dt := by
  induction k with
  | zero => exact ⟨s, rfl, by simp [hcnt], rfl, rfl, by simp [hsince]⟩
  | succ k ih =>
    obtain ⟨u, hu, hucnt, huact, huccr, husince⟩ := ih (by omega) hr.of_succ
    have huC := hs.of_clocks hu
    have hparams := clocks_params hu
    obtain ⟨t, hstep⟩ := huC.inv.step_completes
    have htC := huC.of_step hstep
    have hurst := hr.nextInput_rst hu
    obtain ⟨htcnt, htact, htccr⟩ := huC.inv.step_between hstep hurst (by rw [hucnt, hparams]; exact hk)
    refine ⟨t, clocks_succ_last.mpr ⟨u, hu, hstep⟩, by rw [htcnt, hucnt], htact.trans huact, htccr.trans huccr, ?_⟩
    have hureq := huC.dtReq_high (p := p) (by rw [huact, hp])
    have htreq := htC.dtReq_high (p := p) (by rw [htact, huact, hp])
    rw [huccr, hucnt] at hureq
    rw [htccr, huccr, htcnt, hucnt] at htreq
    by_cases hfall : k + 1 = s.ccrActive.toNat
    · rw [step_since_of_changed hstep hurst (by simp [htreq, hureq, hfall.symm])]
      simp [hfall]
    · have hiff : k + 1 < s.ccrActive.toNat ↔ k < s.ccrActive.toNat := by omega
      rw [step_since_of_kept hstep hurst (by simp [htreq, hureq, hiff]), husince, hparams]
      split <;> split <;> omega

end Sys2Proof.Machine

namespace Sys2Proof

open Sys2Proof.Machine

/-- Settles O20: CFG's three words, each with its requests. -/
theorem requestsOfTheThreeWords : Obligations.RequestsOfTheThreeWords :=
  ⟨rfl, rfl, rfl, channelRequest_high, channelRequest_low, channelRequest_float⟩

/-- Settles O21: the two requests with the reference written as one formula. -/
theorem requestsOfEveryWord : Obligations.RequestsOfEveryWord := by
  intro c cnt ccr
  rw [channelRequest, reference_eq_and]
  exact ⟨rfl, rfl⟩

/-- Settles O32: FLOAT requests no switch. -/
theorem floatPhaseIsOpen : Obligations.FloatPhaseIsOpen := fun _ _ hs hp => hs.float_open hp

/-- Settles O29: the change restarts the counter, which rises to DT while the pair stays. -/
theorem deadTimeIsExactlyDt : Obligations.DeadTimeIsExactlyDt := by
  intro s s₀ t p k hv hr hstep hchange hreset hkept h
  have hzero := step_since_of_changed hstep hr hchange
  have hsince := clocks_since_of_kept (by omega) hreset hkept h
  rw [hzero, Nat.zero_add, step_params hstep] at hsince
  have hsettled : (min k s.params.dt == s.params.dt) = decide (s.params.dt ≤ k) := by
    rw [Bool.eq_iff_iff, beq_iff_eq, decide_eq_true_iff, min_eq_right_iff]
  simp only [State.highOn, State.lowOn, hkept k t (Nat.le_refl k) h, hsince, clocks_params h, step_params hstep, hsettled,
    and_self]

/-- Settles O30: the other switch of a conducting one is not requested (invariant 6 of R35), so it conducts only after its
own DT ticks. -/
theorem deadTimeSeparatesTheSwitches : Obligations.DeadTimeSeparatesTheSwitches := by
  intro s t p n hs h
  have hboth := hs.noBoth p
  refine ⟨fun hlow => ?_, fun hhigh => ?_⟩
  · have hb := ((s.lowOn_iff p).mp hlow).1
    exact dt_lt_of_highOn (by simpa [hb] using hboth) h
  · have ha := ((s.highOn_iff p).mp hhigh).1
    exact dt_lt_of_lowOn (by simpa [ha] using hboth) h

/-- Settles O33: the requests and the dead-time counter of a HIGH phase at each tick of the period. -/
theorem highPhaseWaveform : Obligations.HighPhaseWaveform := by
  intro s p k hs hcnt hp hsince _ _ hk hr
  obtain ⟨t, ht, htcnt, htact, htccr, htsince⟩ := hs.clocks_high_phase hcnt hp hsince hk hr
  have hreq := (hs.of_clocks ht).dtReq_high (p := p) (by rw [htact]; exact hp)
  rw [htcnt, htccr] at hreq
  refine ⟨t, ht, htcnt, ?_, ?_⟩
  · rw [State.highOn_iff, hreq, htsince, clocks_params ht, decide_eq_true_iff]
    split <;> omega
  · rw [State.lowOn_iff, hreq, htsince, clocks_params ht, Bool.not_eq_true', decide_eq_false_iff_not]
    split <;> omega

/-- Settles O34: such a phase makes one request throughout, and settles in DT ticks. -/
theorem steadyPhasesConduct : Obligations.SteadyPhasesConduct := by
  intro s t p k hs hr hactive h
  refine ⟨fun hlow => ?_, fun ⟨hp, hc⟩ => ?_⟩
  · have hq : ∀ j u, j ≤ k → clocks j s = .next u → u.dtReq.get p = ⟨false, true⟩ := by
      intro j u hj hu
      obtain ⟨hact, hccr⟩ := hactive j u hj hu
      rw [← hact, ← hccr] at hlow
      obtain hp | ⟨hp, hc⟩ := hlow
      · exact (hs.of_clocks hu).dtReq_low hp
      · exact (hs.of_clocks hu).dtReq_high_zero hp hc
    have hreq := hq k t (Nat.le_refl k) h
    exact ⟨by simp [State.highOn, hreq], fun hk => (t.lowOn_iff p).mpr ⟨by rw [hreq], hs.clocks_settled hr hq h hk⟩⟩
  · have hq : ∀ j u, j ≤ k → clocks j s = .next u → u.dtReq.get p = ⟨true, false⟩ := by
      intro j u hj hu
      obtain ⟨hact, hccr⟩ := hactive j u hj hu
      rw [← hact] at hp
      rw [← hccr, ← clocks_params hu] at hc
      exact (hs.of_clocks hu).dtReq_high_full hp hc
    have hreq := hq k t (Nat.le_refl k) h
    exact ⟨by simp [State.lowOn, hreq], fun hk => (t.highOn_iff p).mpr ⟨by rw [hreq], hs.clocks_settled hr hq h hk⟩⟩

/-- Settles O35: a FLOAT phase requests no switch, so none conducts within DT clocks of the commit. -/
theorem commutationCostsDeadTime : Obligations.CommutationCostsDeadTime := by
  intro s t u row row' p k hs hstep _ hrow hrow'
  refine ⟨fun hfloat => ?_, fun hfloat _ hk h => ?_⟩
  · exact (hs.of_step hstep).float_open (by rw [hrow', rowWords_get, hfloat])
  · have hreq : s.dtReq.get p = ⟨false, false⟩ := hs.dtReq_float (by rw [hrow, rowWords_get, hfloat])
    have hrun : clocks (k + 1) s = .next u := clocks_succ_next.mpr ⟨t, hstep, h⟩
    constructor <;> rw [← Bool.not_eq_true] <;> intro hon
    · have hlt := dt_lt_of_highOn (by rw [hreq]) hrun hon
      omega
    · have hlt := dt_lt_of_lowOn (by rw [hreq]) hrun hon
      omega

/-- Settles O36: a LOW phase keeps its request, and its dead-time counter stays at DT. -/
theorem lowPhaseKeepsConducting : Obligations.LowPhaseKeepsConducting := by
  intro s t p hs hr hstep hp hp' hlow
  have hreq : s.dtReq.get p = ⟨false, true⟩ := hs.dtReq_low hp
  have hreq' : t.dtReq.get p = ⟨false, true⟩ := (hs.of_step hstep).dtReq_low hp'
  have hsettled := ((s.lowOn_iff p).mp hlow).2
  refine (t.lowOn_iff p).mpr ⟨by rw [hreq'], ?_⟩
  rw [step_since_of_kept hstep hr (hreq'.trans hreq.symm), hsettled, step_params hstep]
  omega

end Sys2Proof
end

section
/-! Proofs about the commutation engine (42_commutation.md): the words of APPLY and STOP (R160, R161), the clock of a command,
quiet clocks up to the update event, and the commit (R162 to R167). -/

namespace Sys2Proof

/-! ### Words of one opcode -/

/-- Where a word can decode to one instruction only, that instruction's row of 30_encoding.md R74 decides whether it does. -/
theorem decode_eq_ite_accepts {w : Word} {i : Instr} (honly : ∀ j, decode w = some j → j = i) :
    decode w = if i.row.accepts w = true then some i else none := by
  split
  · next h =>
    obtain ⟨j, hj, -⟩ := exists_decode_of_accepts (row_mem_opcodeRows i) h
    rw [hj, honly j hj]
  · next h =>
    cases hd : decode w with
    | none => rfl
    | some j =>
      obtain rfl := honly j hd
      exact absurd (row_accepts_of_decode hd) h

theorem eq_apply_of_decode {w : Word} {i : Instr} (hop : opField w = 3) (h : decode w = some i) :
    i = .apply (sectorField w) (dataField w) := by
  obtain ⟨-, -, hrow⟩ := decode_cases h
  obtain ⟨-, hi⟩ : sectorField w ≠ 6 ∧ i = .apply (sectorField w) (dataField w) := by simpa [hop] using hrow
  exact hi

theorem eq_stop_of_decode {w : Word} {i : Instr} (hop : opField w = 4) (h : decode w = some i) : i = .stop := by
  obtain ⟨-, -, hrow⟩ := decode_cases h
  obtain ⟨-, -, hi⟩ : sectorField w = 0 ∧ dataField w = 0 ∧ i = .stop := by simpa [hop] using hrow
  exact hi

theorem row_apply_accepts_iff (k : SectorWord) (d : Half) (w : Word) :
    (Instr.apply k d).row.accepts w = true ↔ w &&& 0xF8FF0000 = 0x30000000 ∧ sectorField w ≠ 6 := by
  rw [OpcodeRow.accepts_iff]
  simp [Instr.row]

theorem row_stop_accepts_iff (w : Word) : Instr.stop.row.accepts w = true ↔ w = 0x40000000 := by
  rw [OpcodeRow.accepts_iff]
  simp only [Instr.row]
  rw [show (0xFFFFFFFF : Word) = BitVec.allOnes 32 from rfl, BitVec.and_allOnes]
  simp

end Sys2Proof

namespace Sys2Proof.Machine

/-! ### The commit request -/

theorem selectSector_of_row {k : SectorWord} {row : PhaseTriple DriveIntent} (h : phaseTable k = some row)
    (current : SectorWord) : selectSector k current = k := by
  have hlt := lt_of_phaseTable h
  have h7 : k ≠ 7 := by rintro rfl; simp at hlt
  exact if_neg h7

theorem wellFormed_apply_of_row {k : SectorWord} {row : PhaseTriple DriveIntent} (h : phaseTable k = some row) (d : Half) :
    (Instr.apply k d).wellFormed = true := by
  have hlt := lt_of_phaseTable h
  have h6 : k ≠ 6 := by rintro rfl; simp at hlt
  simpa [Instr.wellFormed] using h6

/-- APPLY, STOP and a DECODE that is not rejected request a commit (42_commutation.md R160, R161). -/
theorem exec_requests_commit {i : Instr} {s t : State} (h : exec i s = .next t)
    (hi : (∃ k d, i = .apply k d) ∨ i = .stop ∨
      ∃ w, i = .decode w ∧ s.params.pMin ≤ w.toNat ∧ w.toNat ≤ s.params.pMax) : t.commitPending = true := by
  rcases exec_cases h with ⟨rfl, -⟩ | ⟨rfl, -⟩ | ⟨rfl, -⟩ | ⟨_, _, _, -, -, rfl⟩ | ⟨-, rfl⟩ | ⟨w, rfl, hw, -⟩ |
    ⟨_, -, -, rfl⟩ | ⟨_, _, -, -, -, rfl⟩
  · simp at hi
  · simp at hi
  · simp at hi
  · rfl
  · rfl
  · obtain ⟨hmin, hmax⟩ : s.params.pMin ≤ w.toNat ∧ w.toNat ≤ s.params.pMax := by simpa using hi
    omega
  · rfl
  · rfl

/-- No command withdraws a commit request, nor does an illegal word (10_state.md R27). -/
theorem runCommand_keeps_request {inp : PortInput} {s t : State} (h : runCommand inp s = .next t)
    (hp : s.commitPending = true) : t.commitPending = true := by
  rcases runCommand_cases h with ⟨-, rfl⟩ | ⟨-, i, -, hx⟩ | ⟨-, -, rfl⟩
  · exact hp
  · rcases exec_shadow_writers hx with ⟨-, -, hpend, -⟩ | hwriter
    · rw [hpend, hp]
    · exact exec_requests_commit hx hwriter
  · exact hp

/-- At the update event the active elements stay, or become the shadow and the duty (42_commutation.md R163). -/
theorem State.tick_all_or_nothing (s : State) :
    (s.tick.activeCfg = s.activeCfg ∧ s.tick.ccrActive = s.ccrActive) ∨
      (s.cnt.toNat = s.params.period - 1 ∧ s.tick.activeCfg = s.shadowCfg ∧ s.tick.ccrActive = s.duty) := by
  by_cases hcnt : s.cnt.toNat = s.params.period - 1
  · cases hp : s.commitPending with
    | true => exact .inr ⟨hcnt, State.tick_commits hcnt hp⟩
    | false => exact .inl (State.tick_idle hp)
  · obtain ⟨-, -, hactive, hccr⟩ := State.tick_between hcnt
    exact .inl ⟨hactive, hccr⟩

/-- A tick leaves a requested commit pending or does it. -/
theorem State.tick_pending_or_done {s : State} (hp : s.commitPending = true) :
    s.tick.commitPending = true ∨ s.tick.activeCfg = s.shadowCfg := by
  by_cases hcnt : s.cnt.toNat = s.params.period - 1
  · exact .inr (State.tick_commits hcnt hp).1
  · obtain ⟨-, hpend, -⟩ := State.tick_between hcnt
    exact .inl (hpend.trans hp)

/-- FLOAT words request no switch, so a tick that leaves them active opens all six (41_channel_driver.md R126, R128). -/
theorem State.tick_allOpen {s : State} (h : s.tick.activeCfg = floatWords) : s.tick.allOpen := fun p =>
  State.open_of_no_request (by rw [State.tick_dtReq_get, h, floatWords, PhaseTriple.get_all, channelRequest_float])

/-! ### The clock of a command -/

theorem step_command {i : Instr} {s t : State} (hi : i.wellFormed = true) (hin : s.nextInput = .command (encode i))
    (h : step s = .next t) : ∃ u, exec i s.dropInput = .next u ∧ t = u.tick := by
  obtain ⟨-, ⟨hr, -⟩ | ⟨-, u, hu, -, rfl⟩⟩ := step_cases h
  · simp [hin, PortInput.command] at hr
  · rw [hin, runCommand_encode hi] at hu
    exact ⟨u, hu, rfl⟩

theorem State.Inv.step_of_runCommand {s u : State} (h : s.Inv) (hr : s.nextInput.rst = false)
    (hu : runCommand s.nextInput s.dropInput = .next u) : step s = .next u.tick :=
  Machine.step_of_runCommand h.params hr hu
    ((State.channelWordsLegal_iff _).mpr (h.dropInput.of_runCommand hu).tick.activeWords)

theorem State.Inv.step_of_exec {i : Instr} {s u : State} (h : s.Inv) (hi : i.wellFormed = true)
    (hin : s.nextInput = .command (encode i)) (hx : exec i s.dropInput = .next u) : step s = .next u.tick :=
  h.step_of_runCommand (by rw [hin]; rfl) (by rw [hin, runCommand_encode hi, hx])

/-! ### Quiet clocks -/

theorem PortInput.quiet_rst {inp : PortInput} (h : inp.quiet = true) : inp.rst = false := by
  simp only [PortInput.quiet, Bool.and_eq_true, Bool.not_eq_true'] at h
  exact h.1

/-- A quiet host's clock is a NOP (44_sequencer.md R200). -/
theorem runCommand_quiet {inp : PortInput} (h : inp.quiet = true) (s : State) :
    runCommand inp s = .next (s.setResp .ok) := by
  simp only [PortInput.quiet, Bool.and_eq_true, Bool.or_eq_true, Bool.not_eq_true', beq_iff_eq] at h
  obtain ⟨-, hidle | hnop⟩ := h
  · simp [runCommand, hidle, execNop]
  · cases hv : inp.cmdValid <;> simp [runCommand, hv, execWord, hnop, exec, execNop]

theorem State.Inv.step_quiet {s : State} (h : s.Inv) (hq : s.nextInput.quiet = true) :
    step s = .next (s.dropInput.setResp .ok).tick :=
  h.step_of_runCommand (PortInput.quiet_rst hq) (runCommand_quiet hq _)

theorem State.inputAt_congr {s t : State} (h : t.inputs = s.inputs) (j : Nat) : t.inputAt j = s.inputAt j := by
  simp only [State.inputAt, h]

theorem State.dropInput_inputAt (s : State) (j : Nat) : s.dropInput.inputAt j = s.inputAt (j + 1) := by
  simp only [State.inputAt, State.dropInput_inputs]
  cases s.inputs <;> simp

/-- `v` stands before its tick as `u` stood before its own, `k` quiet clocks with no update event earlier: the counter has
gone on, and what a commit reads and writes is the same. -/
structure State.CountedTo (u : State) (k : Nat) (v : State) : Prop where
  cnt : v.cnt.toNat = u.cnt.toNat + k
  params : v.params = u.params
  pending : v.commitPending = u.commitPending
  shadow : v.shadowCfg = u.shadowCfg
  duty : v.duty = u.duty
  active : v.activeCfg = u.activeCfg
  ccr : v.ccrActive = u.ccrActive

theorem State.CountedTo.trans {u v w : State} {m n : Nat} (huv : u.CountedTo m v) (hvw : v.CountedTo n w) :
    u.CountedTo (m + n) w where
  cnt := by rw [hvw.cnt, huv.cnt, Nat.add_assoc]
  params := hvw.params.trans huv.params
  pending := hvw.pending.trans huv.pending
  shadow := hvw.shadow.trans huv.shadow
  duty := hvw.duty.trans huv.duty
  active := hvw.active.trans huv.active
  ccr := hvw.ccr.trans huv.ccr

theorem State.Inv.countedTo_one {u : State} (h : u.Inv) (hcnt : u.cnt.toNat + 1 < u.params.period) :
    u.CountedTo 1 (u.tick.dropInput.setResp .ok) := by
  obtain ⟨hnext, hpend, hactive, hccr⟩ := State.tick_between (s := u) (by omega)
  have hperiod := h.params.1.2
  refine ⟨?_, by simp, hpend, by simp, by simp, hactive, hccr⟩
  rw [State.setResp_cnt, State.dropInput_cnt, hnext, BitVec.toNat_add]
  exact Nat.mod_eq_of_lt (show u.cnt.toNat + 1 < 65536 by omega)

/-- Quiet clocks with no update event before their last tick (41_channel_driver.md R124). -/
theorem State.Inv.clocks_quiet {k : Nat} {u : State} (h : u.Inv) (hcnt : u.cnt.toNat + k < u.params.period)
    (hq : u.Quiet k) : ∃ v, clocks k u.tick = .next v.tick ∧ u.CountedTo k v := by
  induction k generalizing u with
  | zero => exact ⟨u, rfl, rfl, rfl, rfl, rfl, rfl, rfl, rfl⟩
  | succ k ih =>
    have hone := h.countedTo_one (by omega)
    have hnow : u.tick.nextInput.quiet = true := by
      rw [← State.inputAt_zero, State.inputAt_congr u.tick_inputs]
      exact hq 0 (Nat.succ_pos k)
    have hlater : (u.tick.dropInput.setResp .ok).Quiet k := fun j hj => by
      have hin : (u.tick.dropInput.setResp .ok).inputAt j = u.inputAt (j + 1) :=
        (u.tick.dropInput_inputAt j).trans (State.inputAt_congr u.tick_inputs (j + 1))
      rw [hin]
      exact hq (j + 1) (Nat.succ_lt_succ hj)
    obtain ⟨v, hv, hcounted⟩ := ih (h.tick.dropInput.setResp .ok) (by rw [hone.cnt, hone.params]; omega) hlater
    exact ⟨v, clocks_succ_next.mpr ⟨_, h.tick.step_quiet hnow, hv⟩, Nat.add_comm 1 k ▸ hone.trans hcounted⟩

/-! ### A command and the quiet clocks after it -/

/-- A command and the quiet clocks after it, up to the tick of the update event and no further. -/
theorem State.Inv.clocks_command {i : Instr} {j : Nat} {s u : State} (h : s.Inv) (hi : i.wellFormed = true)
    (hin : s.nextInput = .command (encode i)) (hx : exec i s.dropInput = .next u) (hpos : 1 ≤ j)
    (hj : j ≤ s.params.period - s.cnt.toNat) (hq : ∀ n, 1 ≤ n → n < j → (s.inputAt n).quiet = true) :
    ∃ v, clocks j s = .next v.tick ∧ u.CountedTo (j - 1) v := by
  obtain ⟨k, rfl⟩ := Nat.exists_eq_add_of_le' hpos
  obtain ⟨-, -, hcnt, -, -, -, hinputs, hparams⟩ := exec_frame hx
  have hquiet : u.Quiet k := fun n hn => by
    rw [State.inputAt_congr hinputs, State.dropInput_inputAt]
    exact hq (n + 1) (Nat.succ_pos n) (Nat.succ_lt_succ hn)
  have hroom : u.cnt.toNat + k < u.params.period := by
    rw [hcnt, hparams, State.dropInput_cnt, State.dropInput_params]
    omega
  obtain ⟨v, hv, hcounted⟩ := (h.dropInput.of_exec hx).clocks_quiet hroom hquiet
  exact ⟨v, clocks_succ_next.mpr ⟨_, h.step_of_exec hi hin hx, hv⟩, hcounted⟩

/-- The commit of a command that requests one, PERIOD - cnt clocks on (42_commutation.md R167). -/
theorem State.Inv.clocks_command_commits {i : Instr} {s u : State} (h : s.Inv) (hi : i.wellFormed = true)
    (hin : s.nextInput = .command (encode i)) (hx : exec i s.dropInput = .next u) (hp : u.commitPending = true)
    (hq : ∀ n, 1 ≤ n → n < s.params.period - s.cnt.toNat → (s.inputAt n).quiet = true) :
    ∃ v : State, clocks (s.params.period - s.cnt.toNat) s = .next v.tick ∧ v.tick.cnt = 0 ∧ v.tick.commitPending = false ∧
      v.tick.activeCfg = u.shadowCfg ∧ v.tick.ccrActive = u.duty ∧ v.duty = u.duty := by
  have hlt := h.cnt
  obtain ⟨v, hv, hcounted⟩ := h.clocks_command hi hin hx (by omega) (Nat.le_refl _) hq
  have hlast : v.cnt.toNat = v.params.period - 1 := by
    obtain ⟨-, -, hcnt, -, -, -, -, hparams⟩ := exec_frame hx
    rw [hcounted.cnt, hcounted.params, hcnt, hparams, State.dropInput_cnt, State.dropInput_params]
    omega
  obtain ⟨hwrap, hdone⟩ := State.tick_at_update hlast
  obtain ⟨hactive, hccr⟩ := State.tick_commits hlast (hcounted.pending.trans hp)
  exact ⟨v, hv, hwrap, hdone, hactive.trans hcounted.shadow, hccr.trans hcounted.duty, hcounted.duty⟩

end Sys2Proof.Machine

namespace Sys2Proof

open Sys2Proof.Machine

/-- Settles O9: OP = 3 leaves APPLY alone, whose row of R74 decides; the command drives the row of the selected sector. -/
theorem applyWritesTheRow : Obligations.ApplyWritesTheRow := by
  refine ⟨fun w hop => ?_, fun s k d row hrow => applyRow_some (operand := k) hrow, fun k => phaseTable_of_lt⟩
  rw [decode_eq_ite_accepts fun _ => eq_apply_of_decode hop]
  exact if_congr (row_apply_accepts_iff _ _ w) rfl rfl

/-- Settles O10: OP = 4 leaves STOP alone; the command writes the FLOAT words, and the commit makes them active, which
opens every switch. -/
theorem stopFloatsEveryPhase : Obligations.StopFloatsEveryPhase := by
  refine ⟨fun w hop => ?_, fun s => rfl, fun s t => ?_, fun s t hv hcnt h => ?_, fun s hs hin hq => ?_⟩
  · rw [decode_eq_ite_accepts fun _ => eq_stop_of_decode hop]
    exact if_congr (row_stop_accepts_iff w) rfl rfl
  · exact repeatedCommandsAreIdempotent .stop s t (by simp) (by simp) (by simp)
  · obtain ⟨_, ⟨⟩, rfl⟩ := step_command (i := .stop) rfl rfl h
    obtain ⟨hactive, hccr⟩ := State.tick_commits (s := s.dropInput.stopMotor) hcnt rfl
    exact ⟨hccr, State.tick_allOpen hactive⟩
  · obtain ⟨v, hv, -, -, hactive, hccr, hduty⟩ := hs.clocks_command_commits (i := .stop) rfl hin rfl rfl hq
    exact ⟨_, hv, by rw [State.tick_duty, hduty]; rfl, hccr, State.tick_allOpen hactive⟩

/-- Settles O24: no command writes an active element or withdraws a request, and a tick commits all or nothing. -/
theorem commitIsAtomic : Obligations.CommitIsAtomic := by
  intro s t _ hr h
  obtain ⟨-, ⟨hr', -⟩ | ⟨-, u, hu, -, rfl⟩⟩ := step_cases h
  · simp [hr] at hr'
  · obtain ⟨hactive, hccr, hcnt, -, -, -, hparams⟩ := runCommand_frame hu
    simp only [State.dropInput_activeCfg, State.dropInput_ccrActive, State.dropInput_cnt,
      State.dropInput_params] at hactive hccr hcnt hparams
    rw [← hactive, ← hccr, ← hcnt, ← hparams, State.tick_shadowCfg, State.tick_duty]
    refine ⟨?_, fun hlast => ?_, fun hbetween => ?_⟩
    · rcases u.tick_all_or_nothing with hkept | ⟨hlast, hcommit⟩
      · exact .inl hkept
      · obtain ⟨hwrap, hdone⟩ := State.tick_at_update hlast
        exact .inr ⟨hlast, hwrap, hdone, hcommit⟩
    · exact ⟨(State.tick_at_update hlast).2, fun hp => State.tick_commits hlast (runCommand_keeps_request hu hp)⟩
    · obtain ⟨-, hpend, hactive', hccr'⟩ := State.tick_between hbetween
      exact ⟨hactive', hccr', fun hp => hpend.trans (runCommand_keeps_request hu hp)⟩

/-- Settles O25: the quiet clocks count up to the update event, whose tick commits what the command wrote. -/
theorem commitLatency : Obligations.CommitLatency := by
  intro s u i hs hi hin hwriter hq hx
  have hp := exec_requests_commit hx hwriter
  refine ⟨?_, fun j hpos hj => ?_⟩
  · obtain ⟨v, hv, hwrap, hdone, hactive, hccr, -⟩ := hs.clocks_command_commits hi hin hx hp hq
    exact ⟨_, hv, hwrap, hdone, hactive, hccr⟩
  · obtain ⟨v, hv, hcounted⟩ := hs.clocks_command hi hin hx hpos (Nat.le_of_lt hj) fun n hn hnj => hq n hn (hnj.trans hj)
    obtain ⟨hactive, hccr, hcnt, -, -, -, -, hparams⟩ := exec_frame hx
    have hbetween : v.cnt.toNat ≠ v.params.period - 1 := by
      rw [hcounted.cnt, hcounted.params, hcnt, hparams, State.dropInput_cnt, State.dropInput_params]
      omega
    obtain ⟨-, hpend', hactive', hccr'⟩ := State.tick_between hbetween
    exact ⟨_, hv, hpend'.trans (hcounted.pending.trans hp), hactive'.trans (hcounted.active.trans hactive),
      hccr'.trans (hcounted.ccr.trans hccr)⟩

/-- Settles O27: APPLY writes the shadow, the duty and the run flag whole, so nothing of the STOP is left. -/
theorem stopThenApplyLeavesTheRow : Obligations.StopThenApplyLeavesTheRow := by
  intro s k d row hs hstop happly hrow
  have hone : step s = .next s.dropInput.stopMotor.tick :=
    hs.step_of_exec (i := .stop) rfl (s.inputAt_zero.symm.trans hstop) rfl
  have hin : s.dropInput.stopMotor.tick.nextInput = .command (encode (.apply k d)) := by
    rw [← State.inputAt_zero, step_inputAt hone, happly]
  have hx := applyRow_some (operand := k) (d := d) (s := s.dropInput.stopMotor.tick.dropInput)
    ((congrArg phaseTable (selectSector_of_row hrow _)).trans hrow)
  have htwo := (hs.of_step hone).step_of_exec (wellFormed_apply_of_row hrow d) hin hx
  refine ⟨_, clocks_succ_next.mpr ⟨_, hone, clocks_succ_next.mpr ⟨_, htwo, rfl⟩⟩, ?_, ?_, ?_, ?_, ?_⟩
  · rw [State.tick_shadowCfg]; rfl
  · simp
  · simp
  · simp
  · rw [State.tick_shadowCfg]
    exact State.tick_pending_or_done rfl

end Sys2Proof
end

section
/-! Proofs about the throttle decoder (43_throttle.md): what each width makes DECODE do (R180 to R185, R187), the mapped duty
(R184, R186, R189), and the run after a stop (R188). -/

namespace Sys2Proof.Machine

/-! ### The mapped duty -/

theorem clampWidth_of_window {p : Params} {w : Half} (hmin : p.wMin ≤ w.toNat) (hmax : w.toNat ≤ p.wMax) :
    clampWidth p w = w.toNat := by
  rw [clampWidth, Nat.max_eq_left hmin, Nat.min_eq_left hmax]

/-- Inside the operating window each width has a longer duty than the widths below it (43_throttle.md R186). -/
theorem mapped_duty_lt {p : Params} (hp : p.Valid) {w₁ w₂ : Half} (hmin : p.wMin ≤ w₁.toNat) (hlt : w₁.toNat < w₂.toNat)
    (hmax : w₂.toNat ≤ p.wMax) : (clampWidth p w₁ - p.wMin) * p.k < (clampWidth p w₂ - p.wMin) * p.k := by
  obtain ⟨-, -, -, -, ⟨hk, -⟩, -⟩ := hp
  rw [clampWidth_of_window hmin (by omega), clampWidth_of_window (by omega) hmax]
  exact Nat.mul_lt_mul_of_pos_right (by omega) hk

/-- A width reaches W_STOP exactly when its mapped duty reaches that of W_STOP (43_throttle.md R189): K is positive, and
W_STOP lies inside the operating window, so the clamp moves no width across it. -/
theorem mapped_duty_reaches_stop_iff {p : Params} (hp : p.Valid) (w : Half) :
    (p.wStop - p.wMin) * p.k ≤ (clampWidth p w - p.wMin) * p.k ↔ p.wStop ≤ w.toNat := by
  obtain ⟨-, -, -, ⟨hwindow, hstop⟩, ⟨hk, -⟩, -⟩ := hp
  rw [Nat.mul_le_mul_right_iff hk, clampWidth]
  omega

/-- APPLY's saturation leaves the mapped duty alone (43_throttle.md R184). -/
theorem saturateDuty_mapped_toNat {p : Params} (hp : p.Valid) (w : Half) :
    (saturateDuty p.period (BitVec.ofNat 16 ((clampWidth p w - p.wMin) * p.k))).toNat = (clampWidth p w - p.wMin) * p.k := by
  rw [saturateDuty_toNat, mapped_duty_toNat hp, Nat.min_eq_left (mapped_duty_le hp w)]

/-! ### What a plausible width does -/

theorem appliedSector_eq_ite (p : Params) (current : SectorWord) :
    appliedSector p current =
      if p.advanceOnDecode = true ∧ p.stepOrder = .advanceThenApply then nextSector current else current := by
  simp [appliedSector, advancesBefore]

theorem pMin_le_of_reaches_stop {p : Params} (hp : p.Valid) {w : Half} (hstop : p.wStop ≤ w.toNat) :
    p.pMin ≤ w.toNat := by
  obtain ⟨-, -, ⟨hmin, -⟩, ⟨hwindow, -⟩, -⟩ := hp
  omega

theorem plausible_of_window {p : Params} (hp : p.Valid) {w : Half} (hmin : p.wMin ≤ w.toNat) (hmax : w.toNat ≤ p.wMax) :
    p.pMin ≤ w.toNat ∧ w.toNat ≤ p.pMax := by
  obtain ⟨-, -, ⟨hpmin, hpmax, -⟩, -⟩ := hp
  omega

/-- The run flag and the duty after a DECODE that is not rejected (43_throttle.md R182, R184). -/
theorem exec_decode_plausible {s t : State} {w : Half} (hv : s.params.Valid) (hmin : s.params.pMin ≤ w.toNat)
    (hmax : w.toNat ≤ s.params.pMax) (h : exec (.decode w) s = .next t) :
    (w.toNat < s.params.wStop ∧ t.run = .stopped ∧ t.duty.toNat = 0) ∨
    (s.params.wStop ≤ w.toNat ∧ t.run = .running ∧
      t.duty.toNat = (clampWidth s.params w - s.params.wMin) * s.params.k) := by
  rcases Nat.lt_or_ge w.toNat s.params.wStop with hstop | hstop
  · rw [exec_decode_stopped hmin hmax hstop] at h
    cases h
    exact .inl ⟨hstop, rfl, rfl⟩
  · rw [exec_decode_running hmin hmax hstop] at h
    cases hrow : phaseTable (appliedSector s.params s.sector) with
    | none => simp [runThrottle_none hrow] at h
    | some row =>
      rw [runThrottle_some hrow] at h
      cases h
      exact .inr ⟨hstop, rfl, saturateDuty_mapped_toNat hv w⟩

theorem step_drive_encode {i : Instr} {s u : State} (hv : s.params.Valid) (hi : i.wellFormed = true)
    (hx : exec i s.dropInput = .next u) (hl : u.tick.channelWordsLegal = true) :
    step (s.drive (.command (encode i))) = .next u.tick :=
  step_of_runCommand hv rfl ((runCommand_encode hi _).trans hx) hl

/-! ### The run after a stop -/

/-- A clock with a quiet host keeps the run flag and requests no commit. -/
theorem step_quiet_keeps {s t : State} (hq : s.nextInput.quiet = true) (h : step s = .next t) :
    t.run = s.run ∧ (s.commitPending = false → t.commitPending = false) := by
  obtain ⟨-, ⟨hr, -⟩ | ⟨-, u, hu, -, rfl⟩⟩ := step_cases h
  · simp [PortInput.quiet_rst hq] at hr
  · rw [runCommand_quiet hq] at hu
    cases hu
    refine ⟨by simp, fun hp => Bool.eq_false_iff.mpr fun htick => ?_⟩
    exact absurd (State.tick_commitPending_imp htick) (by simp [hp])

theorem clocks_quiet_keeps {n : Nat} {s t : State} (hq : s.Quiet n) (h : clocks n s = .next t) :
    t.run = s.run ∧ (s.commitPending = false → t.commitPending = false) := by
  induction n generalizing t with
  | zero =>
    obtain rfl : s = t := by simpa using h
    exact ⟨rfl, id⟩
  | succ n ih =>
    obtain ⟨u, hu, hstep⟩ := clocks_succ_last.mp h
    obtain ⟨hrun, hpend⟩ := ih (fun j hj => hq j (Nat.lt_succ_of_lt hj)) hu
    have hlast : u.nextInput.quiet = true := by
      rw [← State.inputAt_zero, clocks_inputAt hu]
      exact hq n (Nat.lt_succ_self n)
    obtain ⟨hrun', hpend'⟩ := step_quiet_keeps hlast hstep
    exact ⟨hrun'.trans hrun, fun hp => hpend' (hpend hp)⟩

/-- A host that is quiet after its first clock is quiet for the rest of a run. -/
theorem quiet_after {m n r : Nat} {s u : State} (hq : ∀ j, 1 ≤ j → j < n → (s.inputAt j).quiet = true) (hm : 1 ≤ m)
    (hn : n = m + r) (h : clocks m s = .next u) : u.Quiet r := fun j hj => by
  rw [clocks_inputAt h]
  exact hq (m + j) (by omega) (by omega)

theorem State.Inv.clocks_completes {s : State} (h : s.Inv) (n : Nat) : ∃ t, clocks n s = .next t ∧ t.Inv := by
  induction n with
  | zero => exact ⟨s, rfl, h⟩
  | succ n ih =>
    obtain ⟨u, hu, hinv⟩ := ih
    obtain ⟨t, hstep⟩ := hinv.step_completes
    exact ⟨t, clocks_succ_last.mpr ⟨u, hu, hstep⟩, hinv.of_step hstep⟩

/-- A clock that leaves FLOAT words active opens every switch: a reset requests none, and a tick requests what they do. -/
theorem step_allOpen {s t : State} (h : step s = .next t) (hfloat : t.activeCfg = floatWords) : t.allOpen := by
  obtain ⟨-, ⟨-, rfl⟩ | ⟨-, u, -, -, rfl⟩⟩ := step_cases h
  · exact fun p => State.open_of_no_request (by simp)
  · exact State.tick_allOpen hfloat

theorem State.allOpen.gate {s : State} (h : s.allOpen) : s.gate = 0 := by
  obtain ⟨hu, hu'⟩ := h .u
  obtain ⟨hv, hv'⟩ := h .v
  obtain ⟨hw, hw'⟩ := h .w
  rw [State.gate, hu, hu', hv, hv', hw, hw']
  rfl

/-- A stopped block of R35 with nothing pending has FLOAT words active (10_state.md R35, invariants 2 and 5). -/
theorem State.Inv.active_float {s : State} (h : s.Inv) (hrun : s.run = .stopped) (hp : s.commitPending = false) :
    s.activeCfg = floatWords :=
  (h.settled hp).1.trans (h.stopped hrun)

/-- A command that stops the motor (43_throttle.md R188): STOP, or a DECODE in the stop dead zone. -/
def StopsMotor (p : Params) (i : Instr) : Prop :=
  i = .stop ∨ ∃ w, i = .decode w ∧ p.pMin ≤ w.toNat ∧ w.toNat ≤ p.pMax ∧ w.toNat < p.wStop

theorem StopsMotor.wellFormed {p : Params} {i : Instr} (h : StopsMotor p i) : i.wellFormed = true := by
  obtain rfl | ⟨w, rfl, -⟩ := h <;> rfl

theorem StopsMotor.of_exec {i : Instr} {s t : State} (h : StopsMotor s.params i) (hx : exec i s = .next t) :
    t.run = .stopped ∧ t.commitPending = true := by
  obtain rfl | ⟨w, rfl, hmin, hmax, hstop⟩ := h
  · cases hx
    exact ⟨rfl, rfl⟩
  · rw [exec_decode_stopped hmin hmax hstop] at hx
    cases hx
    exact ⟨rfl, rfl⟩

end Sys2Proof.Machine

namespace Sys2Proof

open Sys2Proof.Machine

/-- Settles O11: RESP has no part in a tick, so the clock is an idle one up to its RESP. -/
theorem implausibleWidthIsRejected : Obligations.ImplausibleWidthIsRejected := by
  intro s w hw
  refine ⟨exec_decode_reject hw, fun t ht => ?_⟩
  obtain ⟨hv, hl, rfl⟩ := step_idle_next ht
  rw [step_drive_encode hv rfl (exec_decode_reject hw) (by rw [State.tick_setResp]; exact hl), State.tick_setResp]
  rfl

/-- Settles O12: the decoder answers STOPPED, and DECODE then writes the duty and does what STOP does. -/
theorem stopZoneWidthStops : Obligations.StopZoneWidthStops :=
  fun _ _ hmin hmax hstop => exec_decode_stopped hmin hmax hstop

/-- Settles O13: the decoder answers RUNNING, the selected row is driven, and the duty is not saturated. -/
theorem runningWidthDrivesTheMotor : Obligations.RunningWidthDrivesTheMotor := by
  intro s w row hv hstop hmax hrow
  have happlied : phaseTable (appliedSector s.params s.sector) = some row := by
    rw [appliedSector_eq_ite]; exact hrow
  exact ⟨_, (exec_decode_running (pMin_le_of_reaches_stop hv hstop) hmax hstop).trans (runThrottle_some happlied), rfl,
    saturateDuty_mapped_toNat hv w⟩

/-- Settles O14: a stop counts as 0, and above W_STOP the duty is the mapped one, strictly monotone in the window. -/
theorem throttleIsMonotone : Obligations.ThrottleIsMonotone := by
  intro s t₁ t₂ w₁ w₂ hv hmin hlt hmax h₁ h₂
  have hmapped := mapped_duty_lt hv hmin hlt hmax
  have hperiod := mapped_duty_le hv w₂
  obtain ⟨hpmin₁, hpmax₁⟩ := plausible_of_window hv hmin (by omega)
  obtain ⟨hpmin₂, hpmax₂⟩ := plausible_of_window hv (by omega) hmax
  rcases exec_decode_plausible hv hpmin₁ hpmax₁ h₁ with ⟨hw₁, -, hd₁⟩ | ⟨hw₁, -, hd₁⟩ <;>
    rcases exec_decode_plausible hv hpmin₂ hpmax₂ h₂ with ⟨hw₂, -, hd₂⟩ | ⟨hw₂, -, hd₂⟩ <;>
    omega

/-- Settles O15: both thresholds say that the width reaches W_STOP. -/
theorem stopThresholdsAgree : Obligations.StopThresholdsAgree := by
  intro s t w hv hmin hmax h
  refine Iff.trans ?_ (mapped_duty_reaches_stop_iff hv w).symm
  rcases exec_decode_plausible hv hmin hmax h with ⟨hstop, hrun, -⟩ | ⟨hstop, hrun, -⟩
  · simp [hrun, hstop]
  · simp [hrun, hstop]

/-- Settles O26: quiet clocks keep STOPPED and the commit done at the update event, and in R35 that leaves FLOAT words
active. -/
theorem stopOpensEverySwitch : Obligations.StopOpensEverySwitch := by
  intro s i n hs hin hi hn hq
  have hstops : StopsMotor s.params i := hi
  obtain ⟨k, rfl⟩ := Nat.exists_eq_add_of_le' hn
  obtain ⟨t, ht, hinv⟩ := hs.clocks_completes (k + 1)
  obtain ⟨_, hstep, hk⟩ := clocks_succ_next.mp ht
  obtain ⟨u, hx, rfl⟩ := step_command hstops.wellFormed hin hstep
  obtain ⟨hurun, hupend⟩ := StopsMotor.of_exec (s := s.dropInput) hi hx
  have hquiet : u.tick.Quiet k :=
    quiet_after hq (Nat.le_refl 1) (Nat.add_comm k 1) (clocks_succ_next.mpr ⟨_, hstep, rfl⟩)
  have hrun : t.run = .stopped := (clocks_quiet_keeps hquiet hk).1.trans (u.tick_run.trans hurun)
  refine ⟨t, ht, hrun, fun hle => ?_⟩
  have hdone : t.commitPending = false := by
    have hcnt := hs.cnt
    obtain ⟨r, hr⟩ := Nat.exists_eq_add_of_le hle
    obtain ⟨v, hv, -, hvdone, -⟩ :=
      hs.clocks_command_commits hstops.wellFormed hin hx hupend fun j hj hlt => hq j hj (by omega)
    obtain ⟨v', hv', hrest⟩ := clocks_add_next.mp (hr ▸ ht)
    obtain rfl : v.tick = v' := by simpa [hv] using hv'
    exact (clocks_quiet_keeps (quiet_after hq (by omega) hr hv) hrest).2 hvdone
  obtain ⟨_, -, hlast⟩ := clocks_succ_last.mp ht
  have hopen := step_allOpen hlast (hinv.active_float hrun hdone)
  exact ⟨hopen, hopen.gate, hdone⟩

end Sys2Proof
end

section
/-! Proofs about the sector sequencer (44_sequencer.md): the words of NOP, ADVANCE and RETREAT, the clock of a NOP (R200), the
sector over consecutive steps (R203) and the run-state machine (R204). -/

namespace Sys2Proof

/-! ### Words without operands -/

theorem OpcodeRow.accepts_iff_of_full_mask {r : OpcodeRow} (hmask : r.mask = BitVec.allOnes 32) (hsix : r.forbidsSix = false)
    (w : Word) : r.accepts w = true ↔ w = r.pattern := by
  rw [OpcodeRow.accepts_iff, hmask, BitVec.and_allOnes]
  simp [hsix]

theorem eq_of_decode_of_opField {w : Word} {i j : Instr} (hi : i = .nop ∨ i = .advance ∨ i = .retreat)
    (hop : opField w = opField (encode i)) (h : decode w = some j) : j = i := by
  obtain ⟨-, -, hrow⟩ := decode_cases h
  obtain rfl | rfl | rfl := hi
  · have hop : opField w = 0 := hop
    obtain ⟨-, -, hj⟩ : sectorField w = 0 ∧ dataField w = 0 ∧ j = .nop := by simpa [hop] using hrow
    exact hj
  · have hop : opField w = 1 := hop
    obtain ⟨-, -, hj⟩ : sectorField w = 0 ∧ dataField w = 0 ∧ j = .advance := by simpa [hop] using hrow
    exact hj
  · have hop : opField w = 2 := hop
    obtain ⟨-, -, hj⟩ : sectorField w = 0 ∧ dataField w = 0 ∧ j = .retreat := by simpa [hop] using hrow
    exact hj

/-- With the opcode of NOP, ADVANCE or RETREAT one word only is legal: their rows of 30_encoding.md R74 mask no bit. -/
theorem decode_eq_ite_pattern {w : Word} {i : Instr} (hi : i = .nop ∨ i = .advance ∨ i = .retreat)
    (hop : opField w = opField (encode i)) : decode w = if w = i.row.pattern then some i else none := by
  obtain ⟨hmask, hsix⟩ : i.row.mask = BitVec.allOnes 32 ∧ i.row.forbidsSix = false := by
    obtain rfl | rfl | rfl := hi <;> exact ⟨rfl, rfl⟩
  rw [decode_eq_ite_accepts fun _ => eq_of_decode_of_opField hi hop]
  exact if_congr (OpcodeRow.accepts_iff_of_full_mask hmask hsix w) rfl rfl

end Sys2Proof

namespace Sys2Proof.Machine

/-! ### The clock of a NOP (44_sequencer.md R200) -/

theorem clockWith_quiet {inp : PortInput} (h : inp.quiet = true) (s : State) :
    clockWith inp s = finishClock (s.setResp .ok) := by
  simp [clockWith, PortInput.quiet_rst h, runCommand_quiet h]

/-- All quiet drives have one clock. -/
theorem step_drive_quiet {inp inp' : PortInput} (h : inp.quiet = true) (h' : inp'.quiet = true) (s : State) :
    step (s.drive inp) = step (s.drive inp') := by
  simp only [step, clock, State.drive_nextInput, State.drive_dropInput, clockWith_quiet h, clockWith_quiet h']
  rfl

theorem step_drive_nop {s : State} (hv : s.params.Valid) (hl : s.dropInput.tick.channelWordsLegal = true) :
    step (s.drive (.command (encode .nop))) = .next (s.dropInput.tick.setResp .ok) := by
  rw [← State.tick_setResp]
  exact step_drive_encode (i := .nop) hv rfl rfl (by rw [State.tick_setResp]; exact hl)

/-- A saturated dead-time counter stays at DT while its request pair stays (41_channel_driver.md R127). -/
theorem deadTimeSince_saturated (dt : Nat) (hdt : dt ≤ 255) (q : Request) :
    deadTimeSince dt q (BitVec.ofNat 8 dt) q = BitVec.ofNat 8 dt := by
  have hsat : min ((BitVec.ofNat 8 dt).toNat + 1) dt = dt := by
    rw [BitVec.toNat_ofNat]
    omega
  rw [deadTimeSince, if_pos rfl, hsat]

/-- The first tick after reset counts up and changes nothing else: the FLOAT words request no switch, and the dead-time
counters are saturated. -/
theorem resetWith_tick {p : Params} (hp : p.Valid) (hperiod : 1 < p.period) :
    (State.resetWith p).tick = (State.resetWith p).setCnt 1 := by
  have hbetween : (State.resetWith p).atUpdate = false := by
    rw [← Bool.not_eq_true, State.atUpdate_iff, State.resetWith_cnt, State.resetWith_params]
    exact fun h => absurd h.symm (Nat.sub_ne_zero_of_lt hperiod)
  have hbase : (State.resetWith p).timeBase = (State.resetWith p).setCnt 1 := by
    rw [State.timeBase, hbetween]
    rfl
  have hreq : ((State.resetWith p).setCnt 1).requests = .all ⟨false, false⟩ :=
    PhaseTriple.ext_get fun q => by
      rw [State.requests_get, State.setCnt_activeCfg, State.resetWith_activeCfg, PhaseTriple.get_all, PhaseTriple.get_all]
      exact channelRequest_float _ _
  have hsince : ((State.resetWith p).setCnt 1).sinces (.all ⟨false, false⟩) = .all (BitVec.ofNat 8 p.dt) :=
    PhaseTriple.ext_get fun q => by
      obtain ⟨-, ⟨-, hdt⟩, -⟩ := hp
      rw [State.sinces_get]
      simp [deadTimeSince_saturated p.dt hdt]
  rw [State.tick, hbase, State.stepChannels, hreq, hsince]
  rfl

theorem resetWith_tick_legal {p : Params} (hp : p.Valid) : (State.resetWith p).tick.channelWordsLegal = true :=
  (State.channelWordsLegal_iff _).mpr (resetWith_inv hp []).tick.activeWords

/-! ### The sector over consecutive steps (44_sequencer.md R203) -/

theorem nextSector_iterate_toNat {k : SectorWord} (hk : k.toNat < 6) (n : Nat) :
    (nextSector^[n] k).toNat = (k.toNat + n) % 6 := by
  induction n with
  | zero => exact (Nat.mod_eq_of_lt hk).symm
  | succ n ih => rw [Function.iterate_succ_apply', nextSector_toNat, ih, Nat.mod_add_mod, Nat.add_assoc]

theorem prevSector_iterate_toNat {k : SectorWord} (hk : k.toNat < 6) (n : Nat) :
    ((prevSector^[n] k).toNat + n) % 6 = k.toNat := by
  induction n with
  | zero => exact Nat.mod_eq_of_lt hk
  | succ n ih =>
    rw [Function.iterate_succ_apply', prevSector_toNat]
    omega

/-- A command that only moves the sector, issued in `n` consecutive clocks, moves it `n` times: no tick writes the sector,
the run flag, the duty or the shadow. -/
theorem State.Inv.clocks_sector_steps {i : Instr} {f : SectorWord → SectorWord} (hi : i.wellFormed = true)
    (hexec : ∀ u : State, exec i u = .next ((u.setSector (f u.sector)).setResp .ok)) {n : Nat} {s : State} (h : s.Inv)
    (hin : ∀ j, j < n → s.inputAt j = .command (encode i)) :
    ∃ t, clocks n s = .next t ∧ t.sector = f^[n] s.sector ∧ t.run = s.run ∧ t.duty = s.duty ∧ t.shadowCfg = s.shadowCfg := by
  induction n with
  | zero => exact ⟨s, rfl, rfl, rfl, rfl, rfl⟩
  | succ n ih =>
    obtain ⟨u, hu, hsector, hrun, hduty, hshadow⟩ := ih fun j hj => hin j (Nat.lt_succ_of_lt hj)
    have hlast : u.nextInput = .command (encode i) := by
      rw [← State.inputAt_zero, clocks_inputAt hu]
      exact hin n (Nat.lt_succ_self n)
    have hinv : u.Inv := clocks_keep State.Inv.of_step h hu
    refine ⟨_, clocks_succ_last.mpr ⟨u, hu, hinv.step_of_exec hi hlast (hexec _)⟩, ?_⟩
    simp [hsector, hrun, hduty, hshadow, Function.iterate_succ_apply']

/-! ### The run-state machine (44_sequencer.md R204) -/

theorem execWord_of_decode {w : Word} {i : Instr} (h : decode w = some i) (s : State) : execWord w s = exec i s := by
  simp only [execWord, h]

theorem step_word {s t : State} {w : Word} (hin : s.nextInput = .command w) (h : step s = .next t) :
    ∃ u, execWord w s.dropInput = .next u ∧ t = u.tick := by
  obtain ⟨-, ⟨hr, -⟩ | ⟨-, u, hu, -, rfl⟩⟩ := step_cases h
  · simp [hin, PortInput.command] at hr
  · rw [hin] at hu
    exact ⟨u, hu, rfl⟩

/-- A running DECODE applies the row of the sector it leaves, or of the sector it found (43_throttle.md R187). -/
theorem appliedSector_eq_sectorAfter (p : Params) (current : SectorWord) :
    appliedSector p current = if p.stepOrder = .advanceThenApply then sectorAfter p current else current := by
  rw [appliedSector_eq_ite, sectorAfter]
  cases p.advanceOnDecode <;> simp

theorem sectorAfter_toNat (p : Params) (current : SectorWord) :
    (sectorAfter p current).toNat = if p.advanceOnDecode then (current.toNat + 1) % 6 else current.toNat := by
  rw [sectorAfter, apply_ite BitVec.toNat, nextSector_toNat]

end Sys2Proof.Machine

namespace Sys2Proof

open Sys2Proof.Machine

/-- Settles O28: each clock moves the sector once, and n moves by one are one move by n modulo 6. -/
theorem sectorStepsAddUp : Obligations.SectorStepsAddUp := by
  refine fun s n hs => ⟨fun hin => ?_, fun hin => ?_⟩
  · obtain ⟨t, ht, hsector, hkept⟩ := hs.clocks_sector_steps (i := .advance) (f := nextSector) rfl (fun _ => rfl) hin
    exact ⟨t, ht, by rw [hsector, nextSector_iterate_toNat hs.sector], hkept⟩
  · obtain ⟨t, ht, hsector, hkept⟩ := hs.clocks_sector_steps (i := .retreat) (f := prevSector) rfl (fun _ => rfl) hin
    exact ⟨t, ht, by rw [hsector, prevSector_iterate_toNat hs.sector], hkept⟩

/-- Settles O49: the clock is the word's command and a tick, which writes neither the run flag, the sector nor the shadow. -/
theorem runStateMachine : Obligations.RunStateMachine := by
  intro s t w hs hin h
  obtain ⟨u, hu, rfl⟩ := step_word hin h
  have hexec {i : Instr} (hd : decode w = some i) : exec i s.dropInput = .next u := execWord_of_decode hd s.dropInput ▸ hu
  simp only [State.tick_run, State.tick_sector, State.tick_shadowCfg]
  refine ⟨?_, fun hd => ?_, fun hd => ?_, fun k d hd => ?_, fun hd => ?_, fun x hd => ?_⟩
  · rintro (hd | hd)
    · cases (execWord_illegal hd s.dropInput).symm.trans hu
      exact ⟨rfl, rfl, rfl⟩
    · cases hexec hd
      exact ⟨rfl, rfl, rfl⟩
  · cases hexec hd
    exact ⟨rfl, nextSector_toNat _, rfl⟩
  · cases hexec hd
    exact ⟨rfl, prevSector_toNat _, rfl⟩
  · obtain ⟨row, hrow, hx⟩ | ⟨-, hx⟩ := applyRow_cases k d s.dropInput
    · cases hx.symm.trans (hexec hd)
      exact ⟨rfl, rfl, row, hrow, rfl⟩
    · cases hx.symm.trans (hexec hd)
  · cases hexec hd
    exact ⟨rfl, rfl, rfl⟩
  · refine ⟨fun hx => ?_, fun hmin hmax hstop => ?_, fun hstop hmax => ?_⟩
    · cases (exec_decode_reject (s := s.dropInput) hx).symm.trans (hexec hd)
      exact ⟨rfl, rfl, rfl⟩
    · cases (exec_decode_stopped (s := s.dropInput) hmin hmax hstop).symm.trans (hexec hd)
      exact ⟨rfl, rfl, rfl⟩
    · obtain ⟨row, hrow⟩ := phaseTable_of_lt (appliedSector_lt (p := s.params) hs.sector)
      have hx := exec_decode_running (s := s.dropInput) (pMin_le_of_reaches_stop hs.params hstop) hmax hstop
      cases (hx.trans (runThrottle_some hrow)).symm.trans (hexec hd)
      exact ⟨rfl, sectorAfter_toNat _ _, row, appliedSector_eq_sectorAfter s.params s.sector ▸ hrow, rfl⟩

/-- Settles O6: a NOP clock is a quiet one, and the first tick after reset only counts. -/
theorem nopWritesNothing : Obligations.NopWritesNothing := by
  refine ⟨fun w hop => decode_eq_ite_pattern (i := .nop) (.inl rfl) hop, fun s => rfl, fun s c => ?_, fun s => step_drive_nop,
    fun p hp hperiod => ?_⟩
  · exact step_drive_quiet rfl rfl s
  · have hnop : step ((State.resetWith p).drive (.command 0)) = .next ((State.resetWith p).tick.setResp .ok) :=
      step_drive_nop hp (resetWith_tick_legal hp)
    rw [hnop, resetWith_tick hp hperiod]
    rfl

/-- Settles O7: the command is the sequencer's forward step, and STATUS carries the sector in its low bits. -/
theorem advanceStepsTheSectorForward : Obligations.AdvanceStepsTheSectorForward := by
  refine ⟨fun w hop => decode_eq_ite_pattern (i := .advance) (.inr (.inl rfl)) hop, fun s => rfl, fun s t h => ?_,
    fun s t hs h => ?_⟩
  · cases h
    exact State.status_sector _
  · cases h
    exact congrArg nextSector hs

/-- Settles O8: the command is the sequencer's backward step. -/
theorem retreatStepsTheSectorBackward : Obligations.RetreatStepsTheSectorBackward := by
  refine ⟨fun w hop => decode_eq_ite_pattern (i := .retreat) (.inr (.inr rfl)) hop, fun s => rfl, fun s t hs h => ?_⟩
  cases h
  exact congrArg prevSector hs

end Sys2Proof
end

section
/-! Proofs about the reading of an illegal word as a fault (60_exceptions.md R221, log 7): what `claimStep` answers, and that
its clocks are the legal clocks of `step`. -/

namespace Sys2Proof.Machine

/-! ### The step that stops on an illegal word -/

theorem claimStep_of_illegal {s : State} (hv : s.params.Valid) (h : s.nextInput.illegal = true) :
    claimStep s = .fault .illegalCommand := if_pos ⟨hv, h⟩

theorem claimStep_of_legal {s : State} (h : s.nextInput.illegal = false) : claimStep s = step s :=
  if_neg fun ⟨_, hill⟩ => by simp [h] at hill

/-- A clock that `claimStep` completes is a clock of `step` without an illegal word. -/
theorem claimStep_eq_next_iff {s t : State} :
    claimStep s = .next t ↔ s.nextInput.illegal = false ∧ step s = .next t := by
  refine ⟨fun h => ?_, fun ⟨hlegal, h⟩ => (claimStep_of_legal hlegal).trans h⟩
  unfold claimStep at h
  split at h
  case isTrue => cases h
  case isFalse hstop =>
    obtain ⟨hv, -⟩ := step_cases h
    exact ⟨Bool.eq_false_iff.mpr fun hill => hstop ⟨hv, hill⟩, h⟩

/-- Without an illegal word a clock leaves ERR = 0 as it is, reset or not (10_state.md R33). -/
theorem step_legal_keeps_err_clear {s t : State} (h : step s = .next t) (hlegal : s.nextInput.illegal = false)
    (herr : s.err = false) : t.err = false := by
  obtain ⟨hrun, hreset⟩ := errIsSticky s t h
  cases hr : s.nextInput.rst with
  | true => exact hreset hr
  | false => simpa [herr, hlegal] using hrun hr

end Sys2Proof.Machine

namespace Sys2Proof

open Sys2Proof.Machine

/-- Settles O45: only a legal clock completes in this reading, and `err` is set by nothing but an illegal word. -/
theorem claimStepStopsOnIllegalWords : Obligations.ClaimStepStopsOnIllegalWords := by
  refine fun s hv => ⟨claimStep_of_illegal hv, claimStep_of_legal, fun t h herr => ?_⟩
  obtain ⟨hlegal, hstep⟩ := claimStep_eq_next_iff.mp h
  exact step_legal_keeps_err_clear hstep hlegal herr

end Sys2Proof
end

section
/-! Proofs about reset and the throttle-driven host (70_reset_and_hazards.md): ResetState and its settled dead-time state (R240),
the reset clock (R241), and what starts the motor under a host that issues DECODE only (R250). -/

namespace Sys2Proof.Machine

/-! ### ResetState (70_reset_and_hazards.md R240) -/

theorem resetWith_allOpen (p : Params) : (State.resetWith p).allOpen := fun _ =>
  State.open_of_no_request (by rw [State.resetWith_dtReq, PhaseTriple.get_all])

theorem resetWith_status (p : Params) : (State.resetWith p).status = 0 := by
  simp only [State.status, State.resetWith_sector, State.resetWith_run, State.resetWith_duty, State.resetWith_commitPending,
    State.resetWith_err]
  rfl

theorem resetWith_actcfg (p : Params) : (State.resetWith p).actcfg = 0x739C := by
  rw [State.actcfg, State.resetWith_activeCfg]
  rfl

/-- A dead-time state without requests and with its counters at DT stays while the FLOAT words do: they request nothing, so no
pair changes, and the counters are saturated (41_channel_driver.md R127). -/
theorem step_keeps_settled_dead_time {s t : State} (h : step s = .next t) (hreq : s.dtReq = .all ⟨false, false⟩)
    (hsince : s.dtSince = .all (BitVec.ofNat 8 s.params.dt)) (hfloat : t.activeCfg = floatWords) :
    t.dtReq = s.dtReq ∧ t.dtSince = s.dtSince := by
  obtain ⟨⟨-, ⟨-, hdt⟩, -⟩, ⟨-, rfl⟩ | ⟨-, u, hu, -, rfl⟩⟩ := step_cases h
  · exact ⟨hreq.symm, hsince.symm⟩
  · obtain ⟨-, -, -, hureq, husince, -, hparams⟩ := runCommand_frame hu
    have hnone (q : Phase) : u.tick.dtReq.get q = ⟨false, false⟩ := by
      rw [State.tick_dtReq_get, hfloat, floatWords, PhaseTriple.get_all, channelRequest_float]
    refine ⟨PhaseTriple.ext_get fun q => ?_, PhaseTriple.ext_get fun q => ?_⟩
    · rw [hnone, hreq, PhaseTriple.get_all]
    · rw [State.tick_dtSince_get, hnone, hureq, husince, hparams]
      simp only [State.dropInput_dtReq, State.dropInput_dtSince, State.dropInput_params, hreq, hsince, PhaseTriple.get_all]
      exact deadTimeSince_saturated s.params.dt hdt _

/-! ### The throttle-driven host (70_reset_and_hazards.md R250) -/

/-- Without reset the throttle-driven host either leaves the clock idle or issues a DECODE (log 18). -/
theorem PortInput.throttleDriven_cases {inp : PortInput} (hr : inp.rst = false) (h : inp.throttleDriven = true) :
    inp.quiet = true ∨ (inp.cmdValid = true ∧ ∃ w, decode inp.cmd = some (.decode w)) := by
  cases hv : inp.cmdValid with
  | false => exact .inl (by simp [PortInput.quiet, hr, hv])
  | true =>
    rw [PortInput.throttleDriven, hv] at h
    cases hd : decode inp.cmd with
    | none => simp [hd] at h
    | some i =>
      cases i with
      | nop => exact .inl (by simp [PortInput.quiet, hr, hd])
      | decode w => exact .inr ⟨rfl, w, rfl⟩
      | advance => simp [hd] at h
      | retreat => simp [hd] at h
      | apply k d => simp [hd] at h
      | stop => simp [hd] at h

/-- From `s` to `t` the motor starts, or the sector moves. -/
def State.StartsOrMoves (s t : State) : Prop :=
  (s.run = .stopped ∧ t.run = .running) ∨ t.sector ≠ s.sector

theorem State.not_startsOrMoves {s t : State} (hrun : t.run = s.run ∨ t.run = .stopped) (hsector : t.sector = s.sector) :
    ¬s.StartsOrMoves t := by
  rintro (⟨hs, ht⟩ | hmoved)
  · rcases hrun with hrun | hrun <;> simp [hs, ht] at hrun
  · exact hmoved hsector

/-- Of the three results of a DECODE only the running one starts the motor or moves the sector (43_throttle.md R180, R187). -/
theorem exec_decode_moves {s t : State} {w : Half} (h : exec (.decode w) s = .next t) (hmoves : s.StartsOrMoves t) :
    s.params.wStop ≤ w.toNat ∧ w.toNat ≤ s.params.pMax ∧ t.run = .running ∧ t.resp = .ok := by
  rcases throttle_cases s.params w with ⟨-, hw⟩ | ⟨-, hmin, hmax, hstop⟩ | ⟨-, hmin, hmax, hstop⟩
  · rw [exec_decode_reject hw] at h
    cases h
    exact absurd hmoves (State.not_startsOrMoves (.inl rfl) rfl)
  · rw [exec_decode_stopped hmin hmax hstop] at h
    cases h
    exact absurd hmoves (State.not_startsOrMoves (.inr rfl) rfl)
  · rw [exec_decode_running hmin hmax hstop] at h
    cases hrow : phaseTable (appliedSector s.params s.sector) with
    | none => simp [runThrottle_none hrow] at h
    | some row =>
      rw [runThrottle_some hrow] at h
      cases h
      exact ⟨hstop, hmax, rfl, rfl⟩

end Sys2Proof.Machine

namespace Sys2Proof

open Sys2Proof.Machine

/-- Settles O51: the clock of this host is idle, which starts and moves nothing, or a DECODE's, where only the running case
does. -/
theorem throttleDrivenHostStartsByDecode : Obligations.ThrottleDrivenHostStartsByDecode := by
  intro s t h hr hhost hmoves
  obtain ⟨-, ⟨hr', -⟩ | ⟨-, u, hu, -, rfl⟩⟩ := step_cases h
  · simp [hr] at hr'
  · have hmoves : s.StartsOrMoves u := by rwa [State.tick_run, State.tick_sector] at hmoves
    rcases PortInput.throttleDriven_cases hr hhost with hquiet | ⟨hv, w, hd⟩
    · rw [runCommand_quiet hquiet] at hu
      cases hu
      exact absurd hmoves (State.not_startsOrMoves (.inl rfl) rfl)
    · have hexec : exec (.decode w) s.dropInput = .next u := by
        simpa [runCommand, hv, execWord_of_decode hd] using hu
      obtain ⟨hstop, hmax, hrun, hresp⟩ := exec_decode_moves hexec hmoves
      exact ⟨w, hd, hstop, hmax, u.tick_run.trans hrun, u.tick_resp.trans hresp⟩

/-- Settles O41: the values are those of the definition, DT fits its 8 bits, and the FLOAT words keep the dead-time state. -/
theorem resetStateIsRule240 : Obligations.ResetStateIsRule240 := by
  refine ⟨⟨Params.configD, by decide, rfl⟩, fun p hp => ?_⟩
  have hsince (q : Phase) : ((State.resetWith p).dtSince.get q).toNat = p.dt := by
    obtain ⟨-, ⟨-, hdt⟩, -⟩ := hp
    rw [State.resetWith_dtSince, PhaseTriple.get_all, BitVec.toNat_ofNat]
    omega
  refine ⟨rfl, rfl, rfl, rfl, rfl, rfl, rfl, rfl, rfl, rfl, PhaseTriple.get_all _, hsince, resetWith_status p,
    resetWith_actcfg p, (resetWith_allOpen p).gate, resetWith_inv hp [], fun s t hparams hcfg hreq hsettled h hkept => ?_⟩
  subst hparams
  exact step_keeps_settled_dead_time h hreq hsettled (hkept.trans hcfg)

/-- Settles O42: reset comes before the command and the tick, and both ports look at RST first. -/
theorem resetClockGivesResetState : Obligations.ResetClockGivesResetState :=
  fun _ hv hr => ⟨step_reset hv hr, if_pos hr, if_pos hr⟩

end Sys2Proof
end
